-- ==== Sys2Proof/Word.lean ====
section
/-! DEFINITION. The two word types of the core (00_scope R8, R12): the byte (A, X, Y, SP and every
memory byte) and the 16-bit address (PC and every effective address). `+` and `-` on them are the
spec's `+8`, `-8`, `+16` and `-16`. -/

namespace Sys2Proof

/-- An 8-bit value, bit 0 the least significant (R8, R10). -/
abbrev Byte := BitVec 8

/-- A 16-bit address (R8, R41). -/
abbrev Addr := BitVec 16

end Sys2Proof
end

