-- ==== Sys2Proof/Machine/Bits.lean ====
section
/-! DEFINITION. Byte order, extension and bit selection (00_scope R10, R12, R13). -/

namespace Sys2Proof

/-- `hi:lo`, the 16-bit value `hi * 256 + lo` (R13). -/
def hiLo (hi lo : Byte) : Addr := hi ++ lo

/-- `w[15:8]` (R13). -/
def hiByte (w : Addr) : Byte := w.extractLsb' 8 8

/-- `w[7:0]` (R13). -/
def loByte (w : Addr) : Byte := w.extractLsb' 0 8

/-- `zext_16(b)` (R12): a byte as a 16-bit value. -/
def zext16 (b : Byte) : Addr := b.setWidth 16

/-- `sext_16(b)` (R12): a byte read as two's complement, mod 65536. -/
def sext16 (b : Byte) : Addr := b.signExtend 16

/-- `v[i]` (R10): bit `i` of a byte. -/
def bit (v : Byte) (i : Nat) : Bool := v.getLsbD i

end Sys2Proof
end

