-- ==== Sys2Proof/Machine/State.lean ====
section
/-! DEFINITION. The state of the core: exactly the components of 10_state R20, as plain data; the reasons a step
can stop; the state after reset (R38). -/

namespace Sys2Proof.Machine

/-- The seven stored status flags, in the order of 10_state R28 (the constant U apart, R32). -/
structure Flags where
  /-- carry -/
  c : Bool
  /-- zero -/
  z : Bool
  /-- interruptDisable -/
  i : Bool
  /-- decimalMode -/
  d : Bool
  /-- breakCommand -/
  b : Bool
  /-- overflow -/
  v : Bool
  /-- negative -/
  n : Bool
  deriving DecidableEq, Repr

/-- Memory (20_memory R41): the bytes that differ from `Memory.unlisted`, by rising address. -/
abbrev Memory := List Host.Cell

/-- What an unlisted address reads as: the reset contents of every byte (20_memory R62). -/
def Memory.unlisted : Byte := 0x00

/-- The canonical form from address `lo` on: addresses rise strictly, lie in the 64 KiB space of R41, and no
listed byte equals `Memory.unlisted`. -/
def Memory.wfFrom (lo : Nat) : Memory → Bool
  | [] => true
  | (a, v) :: rest => decide (lo ≤ a) && decide (a < 65536) && (v != Memory.unlisted) && Memory.wfFrom (a + 1) rest

/-- The canonical form: equal memories are equal lists. -/
def Memory.wf (m : Memory) : Bool := Memory.wfFrom 0 m

/-- The state aggregate of 10_state R20. -/
structure State where
  /-- Program counter: the address of the next opcode to fetch (R25). -/
  pc : Addr
  /-- Accumulator (R21). -/
  a : Byte
  /-- Index register X (R22). -/
  x : Byte
  /-- Index register Y (R23). -/
  y : Byte
  /-- Stack pointer, an offset into page 1 (R27). -/
  sp : Byte
  /-- The seven stored flags (R28). -/
  flags : Flags
  /-- The 65536 bytes of memory (20_memory R41). -/
  mem : Memory
  /-- The terminal-halt flag (R36). -/
  jammed : Bool
  deriving DecidableEq, Repr

/-- Why a step gives no next state. -/
inductive Fault
  /-- The byte at PC has no table entry (30_encoding R84, 60_exceptions R164). Raised by the dispatch; the state is the
  one before the step. This is the spec's own outcome, so it is safe. -/
  | unknownOpcode (op : Byte)
  /-- The core is jammed: a terminal state, not an error, that has no step (40_execution_loop R102, 60_exceptions R165).
  Raised by the loop before any fetch. Safe: no claim about a later step can be proved (Log 3). -/
  | jammed
  deriving DecidableEq, Repr

/-- Why the model gives an instruction no meaning. -/
inductive Refusal
  /-- The instruction has no meaning yet. Raised by `exec`; safe. No arm of this model raises it. -/
  | notModelled (mnemonic : String)
  deriving DecidableEq, Repr

/-- What a meaning and a step answer. -/
abbrev Result := Host.Outcome State Fault Refusal

/-- The canonical initial state, `new()` (10_state R38, 70_reset_and_hazards R179). -/
def State.reset : State where
  pc := 0x0000
  a := 0x00
  x := 0x00
  y := 0x00
  sp := 0xFF
  flags := ⟨false, false, false, false, false, false, false⟩
  mem := []
  jammed := false

end Sys2Proof.Machine
end

