-- ==== Sys2Proof/Machine/Flags.lean ====
section
/-! DEFINITION. The status byte and every flag computation of the spec (10_state R29 to R33, 42_shift_rotate,
43_compare_bit). -/

namespace Sys2Proof.Machine

/-- U, the "unused" flag: the constant 1 (10_state R32). -/
def Flags.unused (_ : Flags) : Bool := true

/-- `encodeP()`: N V U B D I Z C from bit 7 to bit 0 (10_state R29). -/
def Flags.encodeP (p : Flags) : Byte :=
  BitVec.ofBool p.n ++ BitVec.ofBool p.v ++ BitVec.ofBool p.unused ++ BitVec.ofBool p.b ++
  BitVec.ofBool p.d ++ BitVec.ofBool p.i ++ BitVec.ofBool p.z ++ BitVec.ofBool p.c

/-- `decodeP(v)`: the seven stored flags from a byte; bit 5 is ignored (10_state R30). -/
def Flags.decodeP (v : Byte) : Flags where
  c := bit v 0
  z := bit v 1
  i := bit v 2
  d := bit v 3
  b := bit v 4
  v := bit v 6
  n := bit v 7

/-- `setZN(v)`: Z and N overwritten from a result (10_state R31). -/
def Flags.setZN (p : Flags) (v : Byte) : Flags := { p with z := v == 0, n := bit v 7 }

/-- `compare(r, m)`: Z and N from `r -8 m`, C from the unsigned `r ≥ m` (43_compare_bit). -/
def Flags.compare (p : Flags) (r m : Byte) : Flags := { p.setZN (r - m) with c := decide (m.toNat ≤ r.toNat) }

/-- BIT: Z from `a & m`, N and V from bits 7 and 6 of `m` (R115). -/
def Flags.bitTest (p : Flags) (a m : Byte) : Flags := { p with z := (a &&& m) == 0, n := bit m 7, v := bit m 6 }

/-- A shifted byte and the bit shifted out of it. -/
structure Shifted where
  result : Byte
  carry : Bool
  deriving DecidableEq, Repr

/-- ASL of a byte (R108); the old carry is ignored. -/
def shiftLeft (v : Byte) (_carryIn : Bool) : Shifted := ⟨v <<< 1, bit v 7⟩

/-- LSR of a byte (R109); the old carry is ignored. -/
def shiftRight (v : Byte) (_carryIn : Bool) : Shifted := ⟨v >>> 1, bit v 0⟩

/-- ROL of a byte (R110): the old carry enters bit 0. -/
def rotateLeft (v : Byte) (carryIn : Bool) : Shifted := ⟨v <<< 1 ||| (BitVec.ofBool carryIn).setWidth 8, bit v 7⟩

/-- ROR of a byte (R111): the old carry enters bit 7. -/
def rotateRight (v : Byte) (carryIn : Bool) : Shifted :=
  ⟨v >>> 1 ||| (BitVec.ofBool carryIn).setWidth 8 <<< 7, bit v 0⟩

/-- The flags after a shift or rotate: C the bit shifted out, Z and N from the result. -/
def Flags.shifted (p : Flags) (r : Shifted) : Flags := { p with c := r.carry }.setZN r.result

end Sys2Proof.Machine
end

