-- ==== Sys2Proof/Machine/Ops.lean ====
section
/-! DEFINITION. The named operations over memory, the stack and PC, and the one error a step can end in. -/

namespace Sys2Proof.Machine

/-! Memory as a list -/

/-- The byte at an address. -/
def Memory.read : Memory → Nat → Byte
  | [], _ => Memory.unlisted
  | (k, u) :: rest, a => if a = k then u else Memory.read rest a

/-- Put a byte in front of cells of higher addresses; a byte an unlisted address reads as is not listed. -/
def Memory.cons (a : Nat) (v : Byte) (rest : Memory) : Memory :=
  if v = Memory.unlisted then rest else (a, v) :: rest

/-- Memory with one byte changed, in canonical form. -/
def Memory.write : Memory → Nat → Byte → Memory
  | [], a, v => Memory.cons a v []
  | (k, u) :: rest, a, v =>
    if a < k then Memory.cons a v ((k, u) :: rest)
    else if a = k then Memory.cons a v rest
    else (k, u) :: Memory.write rest a v

/-! The two byte accessors (20_memory R43). Memory has no side effects (R44), so the order of accesses within an
instruction (R56) changes no result and no event is recorded (Log 6). -/

/-- `MemRead(addr, 1)` (R43). -/
def State.memRead (s : State) (addr : Addr) : Byte := Memory.read s.mem addr.toNat

/-- `MemWrite(addr, 1, v)` (R43). -/
def State.memWrite (s : State) (addr : Addr) (v : Byte) : State := { s with mem := Memory.write s.mem addr.toNat v }

/-! PC -/

/-- PC moved forward by `n` bytes, modulo 65536 (10_state R25). -/
def State.advance (s : State) (n : Nat) : State := { s with pc := s.pc + BitVec.ofNat 16 n }

/-- PC set to a target. -/
def State.jump (s : State) (target : Addr) : State := { s with pc := target }

/-! The stack (46_stack R132) -/

/-- The absolute address of a stack offset: `0x0100 + SP` (10_state R27, 20_memory R52). -/
def stackAddr (sp : Byte) : Addr := 0x0100 + zext16 sp

/-- `push(v)`: write at the free byte, then decrement SP modulo 256 (R132). -/
def State.push (s : State) (v : Byte) : State := { s.memWrite (stackAddr s.sp) v with sp := s.sp - 1 }

/-- The state part of `pull()`: SP incremented modulo 256 (R132). -/
def State.afterPull (s : State) : State := { s with sp := s.sp + 1 }

/-- The value part of `pull()`: the byte at the incremented SP (R132). -/
def State.pulled (s : State) : Byte := s.memRead (stackAddr (s.sp + 1))

/-! The error outcome -/

/-- `raise UnknownOpcode(op)` (60_exceptions R164). The core has no trap mechanism (R167): nothing is saved, no vector is
read and control does not move, so the outcome holds no state. -/
def raiseUnknownOpcode (op : Byte) : Result := .fault (.unknownOpcode op)

end Sys2Proof.Machine
end

