-- ==== Sys2Proof/Config.lean ====
section
/-! DEFINITION. The parameters the spec leaves open (00_scope R9; decisions D4, D5, D6). They are
fixed for a whole model instance (30_encoding R91) and are no state. Log 2. -/

namespace Sys2Proof

/-- The candidate bytes of JAM_OPCODE (R9, D4). The name is the byte in hexadecimal; 0x02 is not
among them, since 30_encoding R84 makes it unmapped. -/
inductive JamByte
  | h12 | h22 | h32 | h42 | h52 | h62 | h72 | h92 | hB2 | hD2 | hF2
  deriving DecidableEq, Repr

/-- The candidates of SLO_OPCODE (R9, D5): one byte and addressing mode each, named by the mode. -/
inductive SloForm
  | indx | zp | abs | indy | zpx | absy | absx
  deriving DecidableEq, Repr

/-- The three open parameters of R9. -/
structure Config where
  /-- JAM_OPCODE: the byte of the halt opcode, or none. -/
  jamOpcode : Option JamByte
  /-- SLO_OPCODE: the byte and mode of the shift-then-OR opcode, or none. -/
  sloOpcode : Option SloForm
  /-- JMP_IND_PAGE_WRAP: whether indirect JMP reads the target's high byte from the pointer's own page
  when the pointer's low byte is 0xFF. -/
  jmpIndPageWrap : Bool
  deriving DecidableEq, Repr, Inhabited

/-- The parameters of the modelled core. It has no body: the spec gives no value for any of the three,
so nothing can be proved of one (Log 2). -/
opaque Config.hardware : Config

end Sys2Proof
end

