-- ==== Sys2Proof/Syntax.lean ====
section
/-! DEFINITION. The instructions of the core: one constructor per row of spec/opcode_table.json (30_encoding
R83, R86, R87), with its operand bytes decoded (R64 to R81). A name is the mnemonic, and the addressing mode
where the mnemonic has more than one row. -/

namespace Sys2Proof

/-- The 13 addressing modes of 30_encoding R65. -/
inductive Mode
  | imp | acc | imm | zp | zpx | zpy | abs | absx | absy | ind | indx | indy | rel
  deriving DecidableEq, Repr

/-- The 53 mnemonics (00_scope R18; JAM and SLO among them). -/
inductive Mnemonic
  | ora | and | eor
  | asl | lsr | rol | ror
  | cmp | cpx | cpy | bit
  | lda | ldx | ldy | sta | stx | sty
  | tax | tay | txa | tya | tsx | txs
  | inx | iny | dex | dey
  | pha | pla | php | plp
  | bpl | bmi | bvc | bvs | bcc | bcs | bne | beq
  | jmp | jsr | rts
  | clc | sec | cli | sei | cld | sed | clv | brk | nop
  | jam | slo
  deriving DecidableEq, Repr

/-- The eight operand forms that name a byte of memory (30_encoding R70 to R75, R77, R78), each with its
operand bytes: a zero-page byte, or the 16-bit little-endian operand of R64. -/
inductive MemOperand
  | zp (b : Byte) | zpx (b : Byte) | zpy (b : Byte)
  | abs (a : Addr) | absx (a : Addr) | absy (a : Addr)
  | indx (b : Byte) | indy (b : Byte)
  deriving DecidableEq, Repr

/-- The operand of a read-type instruction (30_encoding R80): an immediate value or a byte of memory. -/
inductive Operand
  | imm (v : Byte)
  | mem (m : MemOperand)
  deriving DecidableEq, Repr

/-- The operand of SLO: one of the seven forms SLO_OPCODE can select (00_scope R9, 30_encoding R87). -/
inductive SloOperand
  | indx (b : Byte) | zp (b : Byte) | abs (a : Addr) | indy (b : Byte) | zpx (b : Byte)
  | absy (a : Addr) | absx (a : Addr)
  deriving DecidableEq, Repr

/-- The form of an SLO operand, as the parameter names it. -/
def SloOperand.form : SloOperand → SloForm
  | .indx _ => .indx
  | .zp _ => .zp
  | .abs _ => .abs
  | .indy _ => .indy
  | .zpx _ => .zpx
  | .absy _ => .absy
  | .absx _ => .absx

/-- The memory operand an SLO operand is. -/
def SloOperand.toMem : SloOperand → MemOperand
  | .indx b => .indx b
  | .zp b => .zp b
  | .abs a => .abs a
  | .indy b => .indy b
  | .zpx b => .zpx b
  | .absy a => .absy a
  | .absx a => .absx a

/-- One constructor per row of spec/opcode_table.json. -/
inductive Instr
  -- Bitwise (41_bitwise)
  | oraImm (v : Byte) | oraZp (b : Byte) | oraZpx (b : Byte) | oraAbs (a : Addr) | oraAbsx (a : Addr)
  | oraAbsy (a : Addr) | oraIndx (b : Byte) | oraIndy (b : Byte)
  | andImm (v : Byte) | andZp (b : Byte) | andZpx (b : Byte) | andAbs (a : Addr) | andAbsx (a : Addr)
  | andAbsy (a : Addr) | andIndx (b : Byte) | andIndy (b : Byte)
  | eorImm (v : Byte) | eorZp (b : Byte) | eorZpx (b : Byte) | eorAbs (a : Addr) | eorAbsx (a : Addr)
  | eorAbsy (a : Addr) | eorIndx (b : Byte) | eorIndy (b : Byte)
  -- Shift and rotate (42_shift_rotate)
  | aslAcc | aslZp (b : Byte) | aslZpx (b : Byte) | aslAbs (a : Addr) | aslAbsx (a : Addr)
  | lsrAcc | lsrZp (b : Byte) | lsrZpx (b : Byte) | lsrAbs (a : Addr) | lsrAbsx (a : Addr)
  | rolAcc | rolZp (b : Byte) | rolZpx (b : Byte) | rolAbs (a : Addr) | rolAbsx (a : Addr)
  | rorAcc | rorZp (b : Byte) | rorZpx (b : Byte) | rorAbs (a : Addr) | rorAbsx (a : Addr)
  -- Compare and bit test (43_compare_bit)
  | cmpImm (v : Byte) | cmpZp (b : Byte) | cmpZpx (b : Byte) | cmpAbs (a : Addr) | cmpAbsx (a : Addr)
  | cmpAbsy (a : Addr) | cmpIndx (b : Byte) | cmpIndy (b : Byte)
  | cpxImm (v : Byte) | cpxZp (b : Byte) | cpxAbs (a : Addr)
  | cpyImm (v : Byte) | cpyZp (b : Byte) | cpyAbs (a : Addr)
  | bitZp (b : Byte) | bitAbs (a : Addr)
  -- Load and store (44_load_store_transfer)
  | ldaImm (v : Byte) | ldaZp (b : Byte) | ldaZpx (b : Byte) | ldaAbs (a : Addr) | ldaAbsx (a : Addr)
  | ldaAbsy (a : Addr) | ldaIndx (b : Byte) | ldaIndy (b : Byte)
  | ldxImm (v : Byte) | ldxZp (b : Byte) | ldxZpy (b : Byte) | ldxAbs (a : Addr) | ldxAbsy (a : Addr)
  | ldyImm (v : Byte) | ldyZp (b : Byte) | ldyZpx (b : Byte) | ldyAbs (a : Addr) | ldyAbsx (a : Addr)
  | staZp (b : Byte) | staZpx (b : Byte) | staAbs (a : Addr) | staAbsx (a : Addr) | staAbsy (a : Addr)
  | staIndx (b : Byte) | staIndy (b : Byte)
  | stxZp (b : Byte) | stxZpy (b : Byte) | stxAbs (a : Addr)
  | styZp (b : Byte) | styZpx (b : Byte) | styAbs (a : Addr)
  -- Transfer (44_load_store_transfer)
  | tax
  | tay
  | txa
  | tya
  | tsx
  | txs
  -- Increment and decrement (45_inc_dec)
  | inx
  | iny
  | dex
  | dey
  -- Stack (46_stack)
  | pha
  | pla
  | php
  | plp
  -- Branch (47_branch)
  | bpl (off : Byte)
  | bmi (off : Byte)
  | bvc (off : Byte)
  | bvs (off : Byte)
  | bcc (off : Byte)
  | bcs (off : Byte)
  | bne (off : Byte)
  | beq (off : Byte)
  -- Jump and subroutine (48_jump_subroutine)
  | jmpAbs (target : Addr) | jmpInd (ptr : Addr)
  | jsr (target : Addr)
  | rts
  -- Flags, break, no-op (49_flags_system_illegal)
  | clc
  | sec
  | cli
  | sei
  | cld
  | sed
  | clv
  | brk
  | nop
  -- Illegal opcodes (49_flags_system_illegal): their bytes are parameters
  | jam
  | slo (operand : SloOperand)
  deriving DecidableEq, Repr

end Sys2Proof
end

