-- ==== Sys2Proof/Machine/Operands.lean ====
section
/-! DEFINITION. The addressing-mode resolver: every operand form (30_encoding R67 to R81). The operand bytes are in
the instruction; the resolver reads the registers and pointers they name. -/

namespace Sys2Proof.Machine

/-- A zero-page address (R70, R81). -/
def zeroPage (b : Byte) : Addr := zext16 b

/-- A little-endian pointer in the zero page: the second byte is at `p +8 1`, so it never leaves the page
(R77, R78; decision D7). -/
def State.zeroPagePointer (s : State) (p : Byte) : Addr := hiLo (s.memRead (zeroPage (p + 1))) (s.memRead (zeroPage p))

/-- The effective address of a memory operand. -/
def State.effAddr (s : State) : MemOperand → Addr
  | .zp b => zeroPage b                                -- R70
  | .zpx b => zeroPage (b + s.x)                       -- R71: 8-bit wrap
  | .zpy b => zeroPage (b + s.y)                       -- R72
  | .abs a => a                                        -- R73
  | .absx a => a + zext16 s.x                          -- R74: 16-bit wrap
  | .absy a => a + zext16 s.y                          -- R75
  | .indx b => s.zeroPagePointer (b + s.x)             -- R77
  | .indy b => s.zeroPagePointer b + zext16 s.y        -- R78

/-- The operand value M of a read-type instruction (R80). -/
def State.operandValue (s : State) : Operand → Byte
  | .imm v => v
  | .mem m => s.memRead (s.effAddr m)

/-- The length of an instruction with this memory operand (R64): 2, or 3 with a 16-bit operand. -/
def memLength : MemOperand → Nat
  | .zp _ | .zpx _ | .zpy _ | .indx _ | .indy _ => 2
  | .abs _ | .absx _ | .absy _ => 3

/-- The length of an instruction with this read operand (R64). -/
def operandLength : Operand → Nat
  | .imm _ => 2
  | .mem m => memLength m

/-- Where indirect JMP reads the high byte of its target (R76). The parameter matters only when the pointer's low byte
is 0xFF; then the spec's `(ptr & 0xFF00) | ((ptr +16 1) & 0x00FF)` is `ptr & 0xFF00`. -/
def jmpIndHighAddr (pageWrap : Bool) (ptr : Addr) : Addr :=
  if loByte ptr = 0xFF then (if pageWrap then ptr &&& 0xFF00 else ptr + 1) else ptr + 1

end Sys2Proof.Machine
end

