-- ==== Sys2Proof/Machine/Bitwise.lean ====
section
/-! DEFINITION. ORA, AND and EOR (41_bitwise R105 to R107). -/

namespace Sys2Proof.Machine

/-- `A <- A op M; setZN(A)`: the body of the bitwise instructions, PC moved past the operand. -/
def bitwise (op : Byte → Byte → Byte) (o : Operand) (s : State) : State :=
  let r := op s.a (s.operandValue o)
  { s with a := r, flags := s.flags.setZN r }.advance (operandLength o)

/-- ORA (R105). -/
def ora (o : Operand) (s : State) : State := bitwise (fun a m => a ||| m) o s

/-- AND (R106). -/
def andA (o : Operand) (s : State) : State := bitwise (fun a m => a &&& m) o s

/-- EOR (R107). -/
def eor (o : Operand) (s : State) : State := bitwise (fun a m => a ^^^ m) o s

/-- ORA # (R105, R69). -/
def execOraImm (v : Byte) (s : State) : Result := .next (ora (.imm v) s)

/-- ORA zp (R105, R70). -/
def execOraZp (b : Byte) (s : State) : Result := .next (ora (.mem (.zp b)) s)

/-- ORA zp,X (R105, R71). -/
def execOraZpx (b : Byte) (s : State) : Result := .next (ora (.mem (.zpx b)) s)

/-- ORA abs (R105, R73). -/
def execOraAbs (a : Addr) (s : State) : Result := .next (ora (.mem (.abs a)) s)

/-- ORA abs,X (R105, R74). -/
def execOraAbsx (a : Addr) (s : State) : Result := .next (ora (.mem (.absx a)) s)

/-- ORA abs,Y (R105, R75). -/
def execOraAbsy (a : Addr) (s : State) : Result := .next (ora (.mem (.absy a)) s)

/-- ORA (zp,X) (R105, R77). -/
def execOraIndx (b : Byte) (s : State) : Result := .next (ora (.mem (.indx b)) s)

/-- ORA (zp),Y (R105, R78). -/
def execOraIndy (b : Byte) (s : State) : Result := .next (ora (.mem (.indy b)) s)

/-- AND # (R106, R69). -/
def execAndImm (v : Byte) (s : State) : Result := .next (andA (.imm v) s)

/-- AND zp (R106, R70). -/
def execAndZp (b : Byte) (s : State) : Result := .next (andA (.mem (.zp b)) s)

/-- AND zp,X (R106, R71). -/
def execAndZpx (b : Byte) (s : State) : Result := .next (andA (.mem (.zpx b)) s)

/-- AND abs (R106, R73). -/
def execAndAbs (a : Addr) (s : State) : Result := .next (andA (.mem (.abs a)) s)

/-- AND abs,X (R106, R74). -/
def execAndAbsx (a : Addr) (s : State) : Result := .next (andA (.mem (.absx a)) s)

/-- AND abs,Y (R106, R75). -/
def execAndAbsy (a : Addr) (s : State) : Result := .next (andA (.mem (.absy a)) s)

/-- AND (zp,X) (R106, R77). -/
def execAndIndx (b : Byte) (s : State) : Result := .next (andA (.mem (.indx b)) s)

/-- AND (zp),Y (R106, R78). -/
def execAndIndy (b : Byte) (s : State) : Result := .next (andA (.mem (.indy b)) s)

/-- EOR # (R107, R69). -/
def execEorImm (v : Byte) (s : State) : Result := .next (eor (.imm v) s)

/-- EOR zp (R107, R70). -/
def execEorZp (b : Byte) (s : State) : Result := .next (eor (.mem (.zp b)) s)

/-- EOR zp,X (R107, R71). -/
def execEorZpx (b : Byte) (s : State) : Result := .next (eor (.mem (.zpx b)) s)

/-- EOR abs (R107, R73). -/
def execEorAbs (a : Addr) (s : State) : Result := .next (eor (.mem (.abs a)) s)

/-- EOR abs,X (R107, R74). -/
def execEorAbsx (a : Addr) (s : State) : Result := .next (eor (.mem (.absx a)) s)

/-- EOR abs,Y (R107, R75). -/
def execEorAbsy (a : Addr) (s : State) : Result := .next (eor (.mem (.absy a)) s)

/-- EOR (zp,X) (R107, R77). -/
def execEorIndx (b : Byte) (s : State) : Result := .next (eor (.mem (.indx b)) s)

/-- EOR (zp),Y (R107, R78). -/
def execEorIndy (b : Byte) (s : State) : Result := .next (eor (.mem (.indy b)) s)

end Sys2Proof.Machine
end

