-- ==== Sys2Proof/Machine/Branch.lean ====
section
/-! DEFINITION. The eight conditional branches (47_branch R137 to R146). -/

namespace Sys2Proof.Machine

/-- `branch(cond)` (R138): PC past the opcode and the operand, and then the signed offset added if the condition
holds; a branch not taken ends at PC0 + 2 (C1). -/
def branch (cond : Bool) (off : Byte) (s : State) : State :=
  let past := s.advance 2
  if cond then past.jump (past.pc + sext16 off) else past

/-- BPL rel (R139, R79). -/
def execBpl (off : Byte) (s : State) : Result := .next (branch (!s.flags.n) off s)

/-- BMI rel (R140, R79). -/
def execBmi (off : Byte) (s : State) : Result := .next (branch s.flags.n off s)

/-- BVC rel (R141, R79). -/
def execBvc (off : Byte) (s : State) : Result := .next (branch (!s.flags.v) off s)

/-- BVS rel (R142, R79). -/
def execBvs (off : Byte) (s : State) : Result := .next (branch s.flags.v off s)

/-- BCC rel (R143, R79). -/
def execBcc (off : Byte) (s : State) : Result := .next (branch (!s.flags.c) off s)

/-- BCS rel (R144, R79). -/
def execBcs (off : Byte) (s : State) : Result := .next (branch s.flags.c off s)

/-- BNE rel (R145, R79). -/
def execBne (off : Byte) (s : State) : Result := .next (branch (!s.flags.z) off s)

/-- BEQ rel (R146, R79). -/
def execBeq (off : Byte) (s : State) : Result := .next (branch s.flags.z off s)

end Sys2Proof.Machine
end

