-- ==== Sys2Proof/Machine/Compare.lean ====
section
/-! DEFINITION. CMP, CPX, CPY and BIT (43_compare_bit R112 to R115). -/

namespace Sys2Proof.Machine

/-- `compare(r, M)` with M the operand; no register but PC and no memory byte changes. -/
def compareWith (r : Byte) (o : Operand) (s : State) : State :=
  { s with flags := s.flags.compare r (s.operandValue o) }.advance (operandLength o)

/-- BIT (R115). -/
def bitTest (m : MemOperand) (s : State) : State :=
  { s with flags := s.flags.bitTest s.a (s.memRead (s.effAddr m)) }.advance (memLength m)

/-- CMP # (R112, R69). -/
def execCmpImm (v : Byte) (s : State) : Result := .next (compareWith s.a (.imm v) s)

/-- CMP zp (R112, R70). -/
def execCmpZp (b : Byte) (s : State) : Result := .next (compareWith s.a (.mem (.zp b)) s)

/-- CMP zp,X (R112, R71). -/
def execCmpZpx (b : Byte) (s : State) : Result := .next (compareWith s.a (.mem (.zpx b)) s)

/-- CMP abs (R112, R73). -/
def execCmpAbs (a : Addr) (s : State) : Result := .next (compareWith s.a (.mem (.abs a)) s)

/-- CMP abs,X (R112, R74). -/
def execCmpAbsx (a : Addr) (s : State) : Result := .next (compareWith s.a (.mem (.absx a)) s)

/-- CMP abs,Y (R112, R75). -/
def execCmpAbsy (a : Addr) (s : State) : Result := .next (compareWith s.a (.mem (.absy a)) s)

/-- CMP (zp,X) (R112, R77). -/
def execCmpIndx (b : Byte) (s : State) : Result := .next (compareWith s.a (.mem (.indx b)) s)

/-- CMP (zp),Y (R112, R78). -/
def execCmpIndy (b : Byte) (s : State) : Result := .next (compareWith s.a (.mem (.indy b)) s)

/-- CPX # (R113, R69). -/
def execCpxImm (v : Byte) (s : State) : Result := .next (compareWith s.x (.imm v) s)

/-- CPX zp (R113, R70). -/
def execCpxZp (b : Byte) (s : State) : Result := .next (compareWith s.x (.mem (.zp b)) s)

/-- CPX abs (R113, R73). -/
def execCpxAbs (a : Addr) (s : State) : Result := .next (compareWith s.x (.mem (.abs a)) s)

/-- CPY # (R114, R69). -/
def execCpyImm (v : Byte) (s : State) : Result := .next (compareWith s.y (.imm v) s)

/-- CPY zp (R114, R70). -/
def execCpyZp (b : Byte) (s : State) : Result := .next (compareWith s.y (.mem (.zp b)) s)

/-- CPY abs (R114, R73). -/
def execCpyAbs (a : Addr) (s : State) : Result := .next (compareWith s.y (.mem (.abs a)) s)

/-- BIT zp (R115, R70). -/
def execBitZp (b : Byte) (s : State) : Result := .next (bitTest (.zp b) s)

/-- BIT abs (R115, R73). -/
def execBitAbs (a : Addr) (s : State) : Result := .next (bitTest (.abs a) s)

end Sys2Proof.Machine
end

