-- ==== Sys2Proof/Machine/FlagsSystem.lean ====
section
/-! DEFINITION. Flag set and clear, BRK, NOP, JAM and SLO (49_flags_system_illegal R151 to R162). -/

namespace Sys2Proof.Machine

/-- One byte long, and only the flags change. -/
def withFlags (p : Flags) (s : State) : State := { s with flags := p }.advance 1

/-- CLC (R151). -/
def execClc (s : State) : Result := .next (withFlags { s.flags with c := false } s)

/-- SEC (R152). -/
def execSec (s : State) : Result := .next (withFlags { s.flags with c := true } s)

/-- CLI (R153). -/
def execCli (s : State) : Result := .next (withFlags { s.flags with i := false } s)

/-- SEI (R154). -/
def execSei (s : State) : Result := .next (withFlags { s.flags with i := true } s)

/-- CLD (R155). -/
def execCld (s : State) : Result := .next (withFlags { s.flags with d := false } s)

/-- SED (R156). -/
def execSed (s : State) : Result := .next (withFlags { s.flags with d := true } s)

/-- CLV (R157). -/
def execClv (s : State) : Result := .next (withFlags { s.flags with v := false } s)

/-- BRK (R159): no trap. It pushes nothing, reads no vector, and skips its padding byte unread (D8, D16). -/
def execBrk (s : State) : Result := .next ({ s with flags := { s.flags with b := true, i := true } }.advance 2)

/-- NOP (R160). -/
def execNop (s : State) : Result := .next (s.advance 1)

/-- JAM (R161): the core is jammed and PC stays at the opcode. -/
def execJam (s : State) : Result := .next { s with jammed := true }

/-- The body of SLO (R162): ASL of the byte at the effective address, then ORA of the result into A; C is the bit
shifted out, Z and N come from the final A. -/
def shiftThenOr (m : MemOperand) (s : State) : State :=
  let ea := s.effAddr m
  let r := shiftLeft (s.memRead ea) s.flags.c
  let acc := s.a ||| r.result
  { s.memWrite ea r.result with a := acc, flags := { s.flags with c := r.carry }.setZN acc }.advance (memLength m)

/-- SLO (R162) in the form its operand has. -/
def execSlo (o : SloOperand) (s : State) : Result := .next (shiftThenOr o.toMem s)

end Sys2Proof.Machine
end

