-- ==== Sys2Proof/Machine/LoadStore.lean ====
section
/-! DEFINITION. Loads, stores and register transfers (44_load_store_transfer R116 to R127). -/

namespace Sys2Proof.Machine

/-- A <- v; setZN(A). -/
def State.setA (s : State) (v : Byte) : State := { s with a := v, flags := s.flags.setZN v }

/-- X <- v; setZN(X). -/
def State.setX (s : State) (v : Byte) : State := { s with x := v, flags := s.flags.setZN v }

/-- Y <- v; setZN(Y). -/
def State.setY (s : State) (v : Byte) : State := { s with y := v, flags := s.flags.setZN v }

/-- LDA (R116). -/
def loadA (o : Operand) (s : State) : State := (s.setA (s.operandValue o)).advance (operandLength o)

/-- LDX (R117). -/
def loadX (o : Operand) (s : State) : State := (s.setX (s.operandValue o)).advance (operandLength o)

/-- LDY (R118). -/
def loadY (o : Operand) (s : State) : State := (s.setY (s.operandValue o)).advance (operandLength o)

/-- A store of `v` (R80, R119 to R121): one write at the effective address, no read of it, no flag. -/
def store (v : Byte) (m : MemOperand) (s : State) : State := (s.memWrite (s.effAddr m) v).advance (memLength m)

/-- LDA # (R116, R69). -/
def execLdaImm (v : Byte) (s : State) : Result := .next (loadA (.imm v) s)

/-- LDA zp (R116, R70). -/
def execLdaZp (b : Byte) (s : State) : Result := .next (loadA (.mem (.zp b)) s)

/-- LDA zp,X (R116, R71). -/
def execLdaZpx (b : Byte) (s : State) : Result := .next (loadA (.mem (.zpx b)) s)

/-- LDA abs (R116, R73). -/
def execLdaAbs (a : Addr) (s : State) : Result := .next (loadA (.mem (.abs a)) s)

/-- LDA abs,X (R116, R74). -/
def execLdaAbsx (a : Addr) (s : State) : Result := .next (loadA (.mem (.absx a)) s)

/-- LDA abs,Y (R116, R75). -/
def execLdaAbsy (a : Addr) (s : State) : Result := .next (loadA (.mem (.absy a)) s)

/-- LDA (zp,X) (R116, R77). -/
def execLdaIndx (b : Byte) (s : State) : Result := .next (loadA (.mem (.indx b)) s)

/-- LDA (zp),Y (R116, R78). -/
def execLdaIndy (b : Byte) (s : State) : Result := .next (loadA (.mem (.indy b)) s)

/-- LDX # (R117, R69). -/
def execLdxImm (v : Byte) (s : State) : Result := .next (loadX (.imm v) s)

/-- LDX zp (R117, R70). -/
def execLdxZp (b : Byte) (s : State) : Result := .next (loadX (.mem (.zp b)) s)

/-- LDX zp,Y (R117, R72). -/
def execLdxZpy (b : Byte) (s : State) : Result := .next (loadX (.mem (.zpy b)) s)

/-- LDX abs (R117, R73). -/
def execLdxAbs (a : Addr) (s : State) : Result := .next (loadX (.mem (.abs a)) s)

/-- LDX abs,Y (R117, R75). -/
def execLdxAbsy (a : Addr) (s : State) : Result := .next (loadX (.mem (.absy a)) s)

/-- LDY # (R118, R69). -/
def execLdyImm (v : Byte) (s : State) : Result := .next (loadY (.imm v) s)

/-- LDY zp (R118, R70). -/
def execLdyZp (b : Byte) (s : State) : Result := .next (loadY (.mem (.zp b)) s)

/-- LDY zp,X (R118, R71). -/
def execLdyZpx (b : Byte) (s : State) : Result := .next (loadY (.mem (.zpx b)) s)

/-- LDY abs (R118, R73). -/
def execLdyAbs (a : Addr) (s : State) : Result := .next (loadY (.mem (.abs a)) s)

/-- LDY abs,X (R118, R74). -/
def execLdyAbsx (a : Addr) (s : State) : Result := .next (loadY (.mem (.absx a)) s)

/-- STA zp (R119, R70). -/
def execStaZp (b : Byte) (s : State) : Result := .next (store s.a (.zp b) s)

/-- STA zp,X (R119, R71). -/
def execStaZpx (b : Byte) (s : State) : Result := .next (store s.a (.zpx b) s)

/-- STA abs (R119, R73). -/
def execStaAbs (a : Addr) (s : State) : Result := .next (store s.a (.abs a) s)

/-- STA abs,X (R119, R74). -/
def execStaAbsx (a : Addr) (s : State) : Result := .next (store s.a (.absx a) s)

/-- STA abs,Y (R119, R75). -/
def execStaAbsy (a : Addr) (s : State) : Result := .next (store s.a (.absy a) s)

/-- STA (zp,X) (R119, R77). -/
def execStaIndx (b : Byte) (s : State) : Result := .next (store s.a (.indx b) s)

/-- STA (zp),Y (R119, R78). -/
def execStaIndy (b : Byte) (s : State) : Result := .next (store s.a (.indy b) s)

/-- STX zp (R120, R70). -/
def execStxZp (b : Byte) (s : State) : Result := .next (store s.x (.zp b) s)

/-- STX zp,Y (R120, R72). -/
def execStxZpy (b : Byte) (s : State) : Result := .next (store s.x (.zpy b) s)

/-- STX abs (R120, R73). -/
def execStxAbs (a : Addr) (s : State) : Result := .next (store s.x (.abs a) s)

/-- STY zp (R121, R70). -/
def execStyZp (b : Byte) (s : State) : Result := .next (store s.y (.zp b) s)

/-- STY zp,X (R121, R71). -/
def execStyZpx (b : Byte) (s : State) : Result := .next (store s.y (.zpx b) s)

/-- STY abs (R121, R73). -/
def execStyAbs (a : Addr) (s : State) : Result := .next (store s.y (.abs a) s)

/-- TAX (R122). -/
def execTax (s : State) : Result := .next ((s.setX s.a).advance 1)

/-- TAY (R123). -/
def execTay (s : State) : Result := .next ((s.setY s.a).advance 1)

/-- TXA (R124). -/
def execTxa (s : State) : Result := .next ((s.setA s.x).advance 1)

/-- TYA (R125). -/
def execTya (s : State) : Result := .next ((s.setA s.y).advance 1)

/-- TSX (R126). -/
def execTsx (s : State) : Result := .next ((s.setX s.sp).advance 1)

/-- TXS (R127): SP is no general-purpose register, so no flag is written (D19). -/
def execTxs (s : State) : Result := .next ({ s with sp := s.x }.advance 1)

end Sys2Proof.Machine
end

