-- ==== Sys2Proof/Machine/IncDec.lean ====
section
/-! DEFINITION. INX, INY, DEX and DEY (45_inc_dec R128 to R131), modulo 256. -/

namespace Sys2Proof.Machine

/-- INX (R128). -/
def execInx (s : State) : Result := .next ((s.setX (s.x + 1)).advance 1)

/-- INY (R129). -/
def execIny (s : State) : Result := .next ((s.setY (s.y + 1)).advance 1)

/-- DEX (R130). -/
def execDex (s : State) : Result := .next ((s.setX (s.x - 1)).advance 1)

/-- DEY (R131). -/
def execDey (s : State) : Result := .next ((s.setY (s.y - 1)).advance 1)

end Sys2Proof.Machine
end

