-- ==== Sys2Proof/WellFormed.lean ====
section
/-! DEFINITION. Which instructions exist under given parameters. Every operand value of the 126 fixed rows is
encodable, so only the two parameter rows are checked (30_encoding R86, R87). -/

namespace Sys2Proof

/-- JAM exists when JAM_OPCODE is set; SLO exists in the one form SLO_OPCODE selects. -/
def wellFormed (cfg : Config) : Instr → Bool
  | .jam => cfg.jamOpcode.isSome
  | .slo o => cfg.sloOpcode == some o.form
  | _ => true

end Sys2Proof
end

