-- ==== Sys2Proof/Decode.lean ====
section
/-! DEFINITION. The dispatch table (30_encoding R82, R83, R86, R87), the decoder it drives, and the encoder.
The byte values are those of R83 (decisions D2, D3; Log 1). -/

namespace Sys2Proof

/-- The parameters of the modelled core, as the step uses them (Log 2). -/
def coreConfig : Config := Config.hardware

/-- The byte of a JAM_OPCODE candidate (00_scope R9). -/
def JamByte.byte : JamByte → Byte
  | .h12 => 0x12
  | .h22 => 0x22
  | .h32 => 0x32
  | .h42 => 0x42
  | .h52 => 0x52
  | .h62 => 0x62
  | .h72 => 0x72
  | .h92 => 0x92
  | .hB2 => 0xB2
  | .hD2 => 0xD2
  | .hF2 => 0xF2

/-- The candidates of JAM_OPCODE (R9). -/
def jamBytes : List JamByte := [.h12, .h22, .h32, .h42, .h52, .h62, .h72, .h92, .hB2, .hD2, .hF2]

/-- The byte of an SLO_OPCODE candidate (00_scope R9). -/
def SloForm.byte : SloForm → Byte
  | .indx => 0x03
  | .zp => 0x07
  | .abs => 0x0F
  | .indy => 0x13
  | .zpx => 0x17
  | .absy => 0x1B
  | .absx => 0x1F

/-- The candidates of SLO_OPCODE (R9). -/
def sloForms : List SloForm := [.indx, .zp, .abs, .indy, .zpx, .absy, .absx]

/-- The addressing mode of an SLO_OPCODE candidate (R9). -/
def SloForm.mode : SloForm → Mode
  | .indx => .indx
  | .zp => .zp
  | .abs => .abs
  | .indy => .indy
  | .zpx => .zpx
  | .absy => .absy
  | .absx => .absx

/-- The operand bytes a mode consumes (R63, R65). -/
def Mode.operandBytes : Mode → Nat
  | .imp | .acc => 0
  | .imm | .zp | .zpx | .zpy | .indx | .indy | .rel => 1
  | .abs | .absx | .absy | .ind => 2

/-- How a table entry builds its instruction from the operand bytes (formats F1, F2 and F3 of R64). -/
inductive Shape
  | none (i : Instr)
  | byte (make : Byte → Instr)
  | word (make : Addr → Instr)

/-- The operand bytes a shape reads. -/
def Shape.operandBytes : Shape → Nat
  | .none _ => 0
  | .byte _ => 1
  | .word _ => 2

/-- The instruction of a shape, given the two bytes after the opcode; the 16-bit operand is little-endian
(R64, 20_memory R45). A shape ignores the bytes it does not read. -/
def Shape.build : Shape → Byte → Byte → Instr
  | .none i, _, _ => i
  | .byte make, b1, _ => make b1
  | .word make, b1, b2 => make (hiLo b2 b1)

/-- One entry of the dispatch table: a byte, its mnemonic and addressing mode (R93), and its instruction. -/
structure Row where
  opcode : Byte
  mnemonic : Mnemonic
  mode : Mode
  shape : Shape

/-- Line 0 of the opcode map (R83). -/
def opcodeLine0 : List Row :=
  [⟨0x00, .brk, .imp, .none .brk⟩, ⟨0x01, .ora, .indx, .byte .oraIndx⟩, ⟨0x05, .ora, .zp, .byte .oraZp⟩,
   ⟨0x06, .asl, .zp, .byte .aslZp⟩, ⟨0x08, .php, .imp, .none .php⟩, ⟨0x09, .ora, .imm, .byte .oraImm⟩,
   ⟨0x0A, .asl, .acc, .none .aslAcc⟩, ⟨0x0D, .ora, .abs, .word .oraAbs⟩,
   ⟨0x0E, .asl, .abs, .word .aslAbs⟩]

/-- Line 1 of the opcode map (R83). -/
def opcodeLine1 : List Row :=
  [⟨0x10, .bpl, .rel, .byte .bpl⟩, ⟨0x11, .ora, .indy, .byte .oraIndy⟩,
   ⟨0x15, .ora, .zpx, .byte .oraZpx⟩, ⟨0x16, .asl, .zpx, .byte .aslZpx⟩, ⟨0x18, .clc, .imp, .none .clc⟩,
   ⟨0x19, .ora, .absy, .word .oraAbsy⟩, ⟨0x1D, .ora, .absx, .word .oraAbsx⟩,
   ⟨0x1E, .asl, .absx, .word .aslAbsx⟩]

/-- Line 2 of the opcode map (R83). -/
def opcodeLine2 : List Row :=
  [⟨0x20, .jsr, .abs, .word .jsr⟩, ⟨0x21, .and, .indx, .byte .andIndx⟩, ⟨0x24, .bit, .zp, .byte .bitZp⟩,
   ⟨0x25, .and, .zp, .byte .andZp⟩, ⟨0x26, .rol, .zp, .byte .rolZp⟩, ⟨0x28, .plp, .imp, .none .plp⟩,
   ⟨0x29, .and, .imm, .byte .andImm⟩, ⟨0x2A, .rol, .acc, .none .rolAcc⟩,
   ⟨0x2C, .bit, .abs, .word .bitAbs⟩, ⟨0x2D, .and, .abs, .word .andAbs⟩,
   ⟨0x2E, .rol, .abs, .word .rolAbs⟩]

/-- Line 3 of the opcode map (R83). -/
def opcodeLine3 : List Row :=
  [⟨0x30, .bmi, .rel, .byte .bmi⟩, ⟨0x31, .and, .indy, .byte .andIndy⟩,
   ⟨0x35, .and, .zpx, .byte .andZpx⟩, ⟨0x36, .rol, .zpx, .byte .rolZpx⟩, ⟨0x38, .sec, .imp, .none .sec⟩,
   ⟨0x39, .and, .absy, .word .andAbsy⟩, ⟨0x3D, .and, .absx, .word .andAbsx⟩,
   ⟨0x3E, .rol, .absx, .word .rolAbsx⟩]

/-- Line 4 of the opcode map (R83). -/
def opcodeLine4 : List Row :=
  [⟨0x41, .eor, .indx, .byte .eorIndx⟩, ⟨0x45, .eor, .zp, .byte .eorZp⟩,
   ⟨0x46, .lsr, .zp, .byte .lsrZp⟩, ⟨0x48, .pha, .imp, .none .pha⟩, ⟨0x49, .eor, .imm, .byte .eorImm⟩,
   ⟨0x4A, .lsr, .acc, .none .lsrAcc⟩, ⟨0x4C, .jmp, .abs, .word .jmpAbs⟩,
   ⟨0x4D, .eor, .abs, .word .eorAbs⟩, ⟨0x4E, .lsr, .abs, .word .lsrAbs⟩]

/-- Line 5 of the opcode map (R83). -/
def opcodeLine5 : List Row :=
  [⟨0x50, .bvc, .rel, .byte .bvc⟩, ⟨0x51, .eor, .indy, .byte .eorIndy⟩,
   ⟨0x55, .eor, .zpx, .byte .eorZpx⟩, ⟨0x56, .lsr, .zpx, .byte .lsrZpx⟩, ⟨0x58, .cli, .imp, .none .cli⟩,
   ⟨0x59, .eor, .absy, .word .eorAbsy⟩, ⟨0x5D, .eor, .absx, .word .eorAbsx⟩,
   ⟨0x5E, .lsr, .absx, .word .lsrAbsx⟩]

/-- Line 6 of the opcode map (R83). -/
def opcodeLine6 : List Row :=
  [⟨0x60, .rts, .imp, .none .rts⟩, ⟨0x66, .ror, .zp, .byte .rorZp⟩, ⟨0x68, .pla, .imp, .none .pla⟩,
   ⟨0x6A, .ror, .acc, .none .rorAcc⟩, ⟨0x6C, .jmp, .ind, .word .jmpInd⟩,
   ⟨0x6E, .ror, .abs, .word .rorAbs⟩]

/-- Line 7 of the opcode map (R83). -/
def opcodeLine7 : List Row :=
  [⟨0x70, .bvs, .rel, .byte .bvs⟩, ⟨0x76, .ror, .zpx, .byte .rorZpx⟩, ⟨0x78, .sei, .imp, .none .sei⟩,
   ⟨0x7E, .ror, .absx, .word .rorAbsx⟩]

/-- Line 8 of the opcode map (R83). -/
def opcodeLine8 : List Row :=
  [⟨0x81, .sta, .indx, .byte .staIndx⟩, ⟨0x84, .sty, .zp, .byte .styZp⟩,
   ⟨0x85, .sta, .zp, .byte .staZp⟩, ⟨0x86, .stx, .zp, .byte .stxZp⟩, ⟨0x88, .dey, .imp, .none .dey⟩,
   ⟨0x8A, .txa, .imp, .none .txa⟩, ⟨0x8C, .sty, .abs, .word .styAbs⟩, ⟨0x8D, .sta, .abs, .word .staAbs⟩,
   ⟨0x8E, .stx, .abs, .word .stxAbs⟩]

/-- Line 9 of the opcode map (R83). -/
def opcodeLine9 : List Row :=
  [⟨0x90, .bcc, .rel, .byte .bcc⟩, ⟨0x91, .sta, .indy, .byte .staIndy⟩,
   ⟨0x94, .sty, .zpx, .byte .styZpx⟩, ⟨0x95, .sta, .zpx, .byte .staZpx⟩,
   ⟨0x96, .stx, .zpy, .byte .stxZpy⟩, ⟨0x98, .tya, .imp, .none .tya⟩,
   ⟨0x99, .sta, .absy, .word .staAbsy⟩, ⟨0x9A, .txs, .imp, .none .txs⟩,
   ⟨0x9D, .sta, .absx, .word .staAbsx⟩]

/-- Line A of the opcode map (R83). -/
def opcodeLineA : List Row :=
  [⟨0xA0, .ldy, .imm, .byte .ldyImm⟩, ⟨0xA1, .lda, .indx, .byte .ldaIndx⟩,
   ⟨0xA2, .ldx, .imm, .byte .ldxImm⟩, ⟨0xA4, .ldy, .zp, .byte .ldyZp⟩, ⟨0xA5, .lda, .zp, .byte .ldaZp⟩,
   ⟨0xA6, .ldx, .zp, .byte .ldxZp⟩, ⟨0xA8, .tay, .imp, .none .tay⟩, ⟨0xA9, .lda, .imm, .byte .ldaImm⟩,
   ⟨0xAA, .tax, .imp, .none .tax⟩, ⟨0xAC, .ldy, .abs, .word .ldyAbs⟩, ⟨0xAD, .lda, .abs, .word .ldaAbs⟩,
   ⟨0xAE, .ldx, .abs, .word .ldxAbs⟩]

/-- Line B of the opcode map (R83). -/
def opcodeLineB : List Row :=
  [⟨0xB0, .bcs, .rel, .byte .bcs⟩, ⟨0xB1, .lda, .indy, .byte .ldaIndy⟩,
   ⟨0xB4, .ldy, .zpx, .byte .ldyZpx⟩, ⟨0xB5, .lda, .zpx, .byte .ldaZpx⟩,
   ⟨0xB6, .ldx, .zpy, .byte .ldxZpy⟩, ⟨0xB8, .clv, .imp, .none .clv⟩,
   ⟨0xB9, .lda, .absy, .word .ldaAbsy⟩, ⟨0xBA, .tsx, .imp, .none .tsx⟩,
   ⟨0xBC, .ldy, .absx, .word .ldyAbsx⟩, ⟨0xBD, .lda, .absx, .word .ldaAbsx⟩,
   ⟨0xBE, .ldx, .absy, .word .ldxAbsy⟩]

/-- Line C of the opcode map (R83). -/
def opcodeLineC : List Row :=
  [⟨0xC0, .cpy, .imm, .byte .cpyImm⟩, ⟨0xC1, .cmp, .indx, .byte .cmpIndx⟩,
   ⟨0xC4, .cpy, .zp, .byte .cpyZp⟩, ⟨0xC5, .cmp, .zp, .byte .cmpZp⟩, ⟨0xC8, .iny, .imp, .none .iny⟩,
   ⟨0xC9, .cmp, .imm, .byte .cmpImm⟩, ⟨0xCA, .dex, .imp, .none .dex⟩, ⟨0xCC, .cpy, .abs, .word .cpyAbs⟩,
   ⟨0xCD, .cmp, .abs, .word .cmpAbs⟩]

/-- Line D of the opcode map (R83). -/
def opcodeLineD : List Row :=
  [⟨0xD0, .bne, .rel, .byte .bne⟩, ⟨0xD1, .cmp, .indy, .byte .cmpIndy⟩,
   ⟨0xD5, .cmp, .zpx, .byte .cmpZpx⟩, ⟨0xD8, .cld, .imp, .none .cld⟩,
   ⟨0xD9, .cmp, .absy, .word .cmpAbsy⟩, ⟨0xDD, .cmp, .absx, .word .cmpAbsx⟩]

/-- Line E of the opcode map (R83). -/
def opcodeLineE : List Row :=
  [⟨0xE0, .cpx, .imm, .byte .cpxImm⟩, ⟨0xE4, .cpx, .zp, .byte .cpxZp⟩, ⟨0xE8, .inx, .imp, .none .inx⟩,
   ⟨0xEA, .nop, .imp, .none .nop⟩, ⟨0xEC, .cpx, .abs, .word .cpxAbs⟩]

/-- Line F of the opcode map (R83). -/
def opcodeLineF : List Row :=
  [⟨0xF0, .beq, .rel, .byte .beq⟩, ⟨0xF8, .sed, .imp, .none .sed⟩]

/-- The 126 fixed entries of the dispatch table (R83). It is never changed (R91). -/
def opcodeTable : List Row :=
  opcodeLine0 ++ opcodeLine1 ++ opcodeLine2 ++ opcodeLine3 ++ opcodeLine4 ++ opcodeLine5 ++ opcodeLine6 ++ opcodeLine7 ++
  opcodeLine8 ++ opcodeLine9 ++ opcodeLineA ++ opcodeLineB ++ opcodeLineC ++ opcodeLineD ++ opcodeLineE ++ opcodeLineF

/-- The entry JAM_OPCODE adds (R86). -/
def jamRow (j : JamByte) : Row := ⟨j.byte, .jam, .imp, .none .jam⟩

/-- The entry SLO_OPCODE adds (R87). -/
def sloRow : SloForm → Row
  | .indx => ⟨SloForm.indx.byte, .slo, .indx, .byte fun b => .slo (.indx b)⟩
  | .zp => ⟨SloForm.zp.byte, .slo, .zp, .byte fun b => .slo (.zp b)⟩
  | .abs => ⟨SloForm.abs.byte, .slo, .abs, .word fun a => .slo (.abs a)⟩
  | .indy => ⟨SloForm.indy.byte, .slo, .indy, .byte fun b => .slo (.indy b)⟩
  | .zpx => ⟨SloForm.zpx.byte, .slo, .zpx, .byte fun b => .slo (.zpx b)⟩
  | .absy => ⟨SloForm.absy.byte, .slo, .absy, .word fun a => .slo (.absy a)⟩
  | .absx => ⟨SloForm.absx.byte, .slo, .absx, .word fun a => .slo (.absx a)⟩

/-- The entry a parameter gives a byte: a candidate byte is mapped only when the parameter selects it, and
every other byte has none (R84, R86, R87). -/
def parameterRow (cfg : Config) (op : Byte) : Option Row :=
  match jamBytes.find? fun j => j.byte == op with
  | some j => if cfg.jamOpcode = some j then some (jamRow j) else none
  | none =>
    match sloForms.find? fun f => f.byte == op with
    | some f => if cfg.sloOpcode = some f then some (sloRow f) else none
    | none => none

/-- The table entry of a byte under given parameters; `none` is an unmapped byte (R82, R84). -/
def lookup (cfg : Config) (op : Byte) : Option Row :=
  match opcodeTable.find? fun r => r.opcode == op with
  | some r => some r
  | none => parameterRow cfg op

/-- The association the disassembler reads: byte to mnemonic and addressing mode (R93, R94). -/
def tableEntry (cfg : Config) (op : Byte) : Option (Mnemonic × Mode) :=
  (lookup cfg op).map fun r => (r.mnemonic, r.mode)

/-- The length of an instruction, from its table entry (R63, R64): the opcode and the mode's operand bytes, and one
byte of padding more for BRK (49_flags_system_illegal R159). -/
def Row.length (r : Row) : Nat :=
  match r.mnemonic with
  | .brk => 2
  | _ => 1 + r.mode.operandBytes

/-- The length of the instruction a byte begins, from the table alone (R63, R94). -/
def opcodeLength (cfg : Config) (op : Byte) : Option Nat :=
  (lookup cfg op).map Row.length

/-- The instruction an opcode byte and the two bytes after it hold; none if the opcode is unmapped. -/
def decodeBytes (cfg : Config) (op b1 b2 : Byte) : Option Instr :=
  (lookup cfg op).map fun r => r.shape.build b1 b2

/-- Why a sequence of bytes is no instruction. -/
inductive Reject
  /-- There is no opcode byte. -/
  | empty
  /-- The opcode byte has no table entry (R84). -/
  | unmapped (op : Byte)
  /-- The opcode is mapped and its operand bytes are missing. -/
  | truncated (op : Byte)
  deriving DecidableEq, Repr

/-- The decoder, total on any bytes: the instruction the bytes begin with, or a named reason. The opcode byte alone
decides the instruction, its mode and its operand bytes (R63). BRK's padding byte is not read (R159, D16; Log 5). -/
def decode (cfg : Config) : List Byte → Except Reject Instr
  | [] => .error .empty
  | op :: rest =>
    match lookup cfg op with
    | none => .error (.unmapped op)
    | some r =>
      match r.shape, rest with
      | .none i, _ => .ok i
      | .byte make, b1 :: _ => .ok (make b1)
      | .word make, b1 :: b2 :: _ => .ok (make (hiLo b2 b1))
      | _, _ => .error (.truncated op)

/-! The mnemonic and the addressing mode of an instruction, as its table row names them (R93). -/

/-- The mnemonic of an instruction. -/
def Instr.mnemonic : Instr → Mnemonic
  | .oraImm _ | .oraZp _ | .oraZpx _ | .oraAbs _ | .oraAbsx _ | .oraAbsy _ | .oraIndx _ | .oraIndy _ => .ora
  | .andImm _ | .andZp _ | .andZpx _ | .andAbs _ | .andAbsx _ | .andAbsy _ | .andIndx _ | .andIndy _ => .and
  | .eorImm _ | .eorZp _ | .eorZpx _ | .eorAbs _ | .eorAbsx _ | .eorAbsy _ | .eorIndx _ | .eorIndy _ => .eor
  | .aslAcc | .aslZp _ | .aslZpx _ | .aslAbs _ | .aslAbsx _ => .asl
  | .lsrAcc | .lsrZp _ | .lsrZpx _ | .lsrAbs _ | .lsrAbsx _ => .lsr
  | .rolAcc | .rolZp _ | .rolZpx _ | .rolAbs _ | .rolAbsx _ => .rol
  | .rorAcc | .rorZp _ | .rorZpx _ | .rorAbs _ | .rorAbsx _ => .ror
  | .cmpImm _ | .cmpZp _ | .cmpZpx _ | .cmpAbs _ | .cmpAbsx _ | .cmpAbsy _ | .cmpIndx _ | .cmpIndy _ => .cmp
  | .cpxImm _ | .cpxZp _ | .cpxAbs _ => .cpx
  | .cpyImm _ | .cpyZp _ | .cpyAbs _ => .cpy
  | .bitZp _ | .bitAbs _ => .bit
  | .ldaImm _ | .ldaZp _ | .ldaZpx _ | .ldaAbs _ | .ldaAbsx _ | .ldaAbsy _ | .ldaIndx _ | .ldaIndy _ => .lda
  | .ldxImm _ | .ldxZp _ | .ldxZpy _ | .ldxAbs _ | .ldxAbsy _ => .ldx
  | .ldyImm _ | .ldyZp _ | .ldyZpx _ | .ldyAbs _ | .ldyAbsx _ => .ldy
  | .staZp _ | .staZpx _ | .staAbs _ | .staAbsx _ | .staAbsy _ | .staIndx _ | .staIndy _ => .sta
  | .stxZp _ | .stxZpy _ | .stxAbs _ => .stx
  | .styZp _ | .styZpx _ | .styAbs _ => .sty
  | .tax => .tax
  | .tay => .tay
  | .txa => .txa
  | .tya => .tya
  | .tsx => .tsx
  | .txs => .txs
  | .inx => .inx
  | .iny => .iny
  | .dex => .dex
  | .dey => .dey
  | .pha => .pha
  | .pla => .pla
  | .php => .php
  | .plp => .plp
  | .bpl _ => .bpl
  | .bmi _ => .bmi
  | .bvc _ => .bvc
  | .bvs _ => .bvs
  | .bcc _ => .bcc
  | .bcs _ => .bcs
  | .bne _ => .bne
  | .beq _ => .beq
  | .jmpAbs _ | .jmpInd _ => .jmp
  | .jsr _ => .jsr
  | .rts => .rts
  | .clc => .clc
  | .sec => .sec
  | .cli => .cli
  | .sei => .sei
  | .cld => .cld
  | .sed => .sed
  | .clv => .clv
  | .brk => .brk
  | .nop => .nop
  | .jam => .jam
  | .slo _ => .slo

/-- The addressing mode of an instruction. -/
def Instr.mode : Instr → Mode
  | .tax | .tay | .txa | .tya | .tsx | .txs | .inx | .iny | .dex | .dey | .pha | .pla | .php | .plp
  | .rts | .clc | .sec | .cli | .sei | .cld | .sed | .clv | .brk | .nop | .jam => .imp
  | .aslAcc | .lsrAcc | .rolAcc | .rorAcc => .acc
  | .oraImm _ | .andImm _ | .eorImm _ | .cmpImm _ | .cpxImm _ | .cpyImm _ | .ldaImm _ | .ldxImm _
  | .ldyImm _ => .imm
  | .oraZp _ | .andZp _ | .eorZp _ | .aslZp _ | .lsrZp _ | .rolZp _ | .rorZp _ | .cmpZp _ | .cpxZp _
  | .cpyZp _ | .bitZp _ | .ldaZp _ | .ldxZp _ | .ldyZp _ | .staZp _ | .stxZp _ | .styZp _ => .zp
  | .oraZpx _ | .andZpx _ | .eorZpx _ | .aslZpx _ | .lsrZpx _ | .rolZpx _ | .rorZpx _ | .cmpZpx _
  | .ldaZpx _ | .ldyZpx _ | .staZpx _ | .styZpx _ => .zpx
  | .ldxZpy _ | .stxZpy _ => .zpy
  | .oraAbs _ | .andAbs _ | .eorAbs _ | .aslAbs _ | .lsrAbs _ | .rolAbs _ | .rorAbs _ | .cmpAbs _
  | .cpxAbs _ | .cpyAbs _ | .bitAbs _ | .ldaAbs _ | .ldxAbs _ | .ldyAbs _ | .staAbs _ | .stxAbs _
  | .styAbs _ | .jmpAbs _ | .jsr _ => .abs
  | .oraAbsx _ | .andAbsx _ | .eorAbsx _ | .aslAbsx _ | .lsrAbsx _ | .rolAbsx _ | .rorAbsx _
  | .cmpAbsx _ | .ldaAbsx _ | .ldyAbsx _ | .staAbsx _ => .absx
  | .oraAbsy _ | .andAbsy _ | .eorAbsy _ | .cmpAbsy _ | .ldaAbsy _ | .ldxAbsy _ | .staAbsy _ => .absy
  | .jmpInd _ => .ind
  | .oraIndx _ | .andIndx _ | .eorIndx _ | .cmpIndx _ | .ldaIndx _ | .staIndx _ => .indx
  | .oraIndy _ | .andIndy _ | .eorIndy _ | .cmpIndy _ | .ldaIndy _ | .staIndy _ => .indy
  | .bpl _ | .bmi _ | .bvc _ | .bvs _ | .bcc _ | .bcs _ | .bne _ | .beq _ => .rel
  | .slo o => o.form.mode

/-! The encoder, from the same table (R64, R83). -/

/-- Format F3: the opcode and the little-endian 16-bit operand (R64). -/
def encodeWord (op : Byte) (a : Addr) : List Byte := [op, loByte a, hiByte a]

/-- The bytes of SLO in a given form (R87). -/
def encodeSlo : SloOperand → List Byte
  | .indx b => [SloForm.indx.byte, b]
  | .zp b => [SloForm.zp.byte, b]
  | .abs a => encodeWord SloForm.abs.byte a
  | .indy b => [SloForm.indy.byte, b]
  | .zpx b => [SloForm.zpx.byte, b]
  | .absy a => encodeWord SloForm.absy.byte a
  | .absx a => encodeWord SloForm.absx.byte a

/-- The bytes of an instruction that is well formed under the parameters. BRK's padding byte, which may hold any
value, is written as 0x00 (Log 5). JAM without a JAM_OPCODE has no bytes. -/
def encode (cfg : Config) : Instr → List Byte
  | .oraImm v => [0x09, v]
  | .oraZp b => [0x05, b]
  | .oraZpx b => [0x15, b]
  | .oraAbs a => encodeWord 0x0D a
  | .oraAbsx a => encodeWord 0x1D a
  | .oraAbsy a => encodeWord 0x19 a
  | .oraIndx b => [0x01, b]
  | .oraIndy b => [0x11, b]
  | .andImm v => [0x29, v]
  | .andZp b => [0x25, b]
  | .andZpx b => [0x35, b]
  | .andAbs a => encodeWord 0x2D a
  | .andAbsx a => encodeWord 0x3D a
  | .andAbsy a => encodeWord 0x39 a
  | .andIndx b => [0x21, b]
  | .andIndy b => [0x31, b]
  | .eorImm v => [0x49, v]
  | .eorZp b => [0x45, b]
  | .eorZpx b => [0x55, b]
  | .eorAbs a => encodeWord 0x4D a
  | .eorAbsx a => encodeWord 0x5D a
  | .eorAbsy a => encodeWord 0x59 a
  | .eorIndx b => [0x41, b]
  | .eorIndy b => [0x51, b]
  | .aslAcc => [0x0A]
  | .aslZp b => [0x06, b]
  | .aslZpx b => [0x16, b]
  | .aslAbs a => encodeWord 0x0E a
  | .aslAbsx a => encodeWord 0x1E a
  | .lsrAcc => [0x4A]
  | .lsrZp b => [0x46, b]
  | .lsrZpx b => [0x56, b]
  | .lsrAbs a => encodeWord 0x4E a
  | .lsrAbsx a => encodeWord 0x5E a
  | .rolAcc => [0x2A]
  | .rolZp b => [0x26, b]
  | .rolZpx b => [0x36, b]
  | .rolAbs a => encodeWord 0x2E a
  | .rolAbsx a => encodeWord 0x3E a
  | .rorAcc => [0x6A]
  | .rorZp b => [0x66, b]
  | .rorZpx b => [0x76, b]
  | .rorAbs a => encodeWord 0x6E a
  | .rorAbsx a => encodeWord 0x7E a
  | .cmpImm v => [0xC9, v]
  | .cmpZp b => [0xC5, b]
  | .cmpZpx b => [0xD5, b]
  | .cmpAbs a => encodeWord 0xCD a
  | .cmpAbsx a => encodeWord 0xDD a
  | .cmpAbsy a => encodeWord 0xD9 a
  | .cmpIndx b => [0xC1, b]
  | .cmpIndy b => [0xD1, b]
  | .cpxImm v => [0xE0, v]
  | .cpxZp b => [0xE4, b]
  | .cpxAbs a => encodeWord 0xEC a
  | .cpyImm v => [0xC0, v]
  | .cpyZp b => [0xC4, b]
  | .cpyAbs a => encodeWord 0xCC a
  | .bitZp b => [0x24, b]
  | .bitAbs a => encodeWord 0x2C a
  | .ldaImm v => [0xA9, v]
  | .ldaZp b => [0xA5, b]
  | .ldaZpx b => [0xB5, b]
  | .ldaAbs a => encodeWord 0xAD a
  | .ldaAbsx a => encodeWord 0xBD a
  | .ldaAbsy a => encodeWord 0xB9 a
  | .ldaIndx b => [0xA1, b]
  | .ldaIndy b => [0xB1, b]
  | .ldxImm v => [0xA2, v]
  | .ldxZp b => [0xA6, b]
  | .ldxZpy b => [0xB6, b]
  | .ldxAbs a => encodeWord 0xAE a
  | .ldxAbsy a => encodeWord 0xBE a
  | .ldyImm v => [0xA0, v]
  | .ldyZp b => [0xA4, b]
  | .ldyZpx b => [0xB4, b]
  | .ldyAbs a => encodeWord 0xAC a
  | .ldyAbsx a => encodeWord 0xBC a
  | .staZp b => [0x85, b]
  | .staZpx b => [0x95, b]
  | .staAbs a => encodeWord 0x8D a
  | .staAbsx a => encodeWord 0x9D a
  | .staAbsy a => encodeWord 0x99 a
  | .staIndx b => [0x81, b]
  | .staIndy b => [0x91, b]
  | .stxZp b => [0x86, b]
  | .stxZpy b => [0x96, b]
  | .stxAbs a => encodeWord 0x8E a
  | .styZp b => [0x84, b]
  | .styZpx b => [0x94, b]
  | .styAbs a => encodeWord 0x8C a
  | .tax => [0xAA]
  | .tay => [0xA8]
  | .txa => [0x8A]
  | .tya => [0x98]
  | .tsx => [0xBA]
  | .txs => [0x9A]
  | .inx => [0xE8]
  | .iny => [0xC8]
  | .dex => [0xCA]
  | .dey => [0x88]
  | .pha => [0x48]
  | .pla => [0x68]
  | .php => [0x08]
  | .plp => [0x28]
  | .bpl off => [0x10, off]
  | .bmi off => [0x30, off]
  | .bvc off => [0x50, off]
  | .bvs off => [0x70, off]
  | .bcc off => [0x90, off]
  | .bcs off => [0xB0, off]
  | .bne off => [0xD0, off]
  | .beq off => [0xF0, off]
  | .jmpAbs target => encodeWord 0x4C target
  | .jmpInd ptr => encodeWord 0x6C ptr
  | .jsr target => encodeWord 0x20 target
  | .rts => [0x60]
  | .clc => [0x18]
  | .sec => [0x38]
  | .cli => [0x58]
  | .sei => [0x78]
  | .cld => [0xD8]
  | .sed => [0xF8]
  | .clv => [0xB8]
  | .brk => [0x00, 0x00]
  | .nop => [0xEA]
  | .jam =>
    match cfg.jamOpcode with
    | some j => [j.byte]
    | none => []
  | .slo o => encodeSlo o

/-- Byte `k` of an instruction whose first `nbits` bits are those of `w`, bit 0 the least significant bit of the
opcode byte, and whose later bits are 0. -/
def tableByte (nbits w k : Nat) : Byte := BitVec.ofNat 8 (w % 2 ^ nbits / 2 ^ (8 * k))

/-- The three bytes, the longest instruction (R64), of such a word in address order. -/
def tableBytes (nbits w : Nat) : List Byte := [tableByte nbits w 0, tableByte nbits w 1, tableByte nbits w 2]

/-- The instruction the decoder reads from a word numbered as spec/opcode_table.json numbers it. -/
def decodeTableWord (nbits w : Nat) : Option Instr :=
  match decode coreConfig (tableBytes nbits w) with
  | .ok i => some i
  | .error _ => none

end Sys2Proof
end

