-- ==== Sys2Proof/Machine/Jump.lean ====
section
/-! DEFINITION. JMP, JSR and RTS (48_jump_subroutine R147 to R150). -/

namespace Sys2Proof.Machine

/-- The target of an indirect JMP (R148): the low byte at the pointer, the high byte where R76 says. -/
def State.indirectTarget (s : State) (pageWrap : Bool) (ptr : Addr) : Addr :=
  hiLo (s.memRead (jmpIndHighAddr pageWrap ptr)) (s.memRead ptr)

/-- JMP (ind) under given parameters (R148). -/
def jmpIndirect (cfg : Config) (ptr : Addr) (s : State) : State :=
  s.jump (s.indirectTarget cfg.jmpIndPageWrap ptr)

/-- The return address JSR pushes: the address of its last byte, PC0 + 2 (R149). -/
def State.returnAddr (s : State) : Addr := s.pc + 2

/-- JMP abs (R147, R73). -/
def execJmpAbs (target : Addr) (s : State) : Result := .next (s.jump target)

/-- JMP (ind) (R148, R76), under the parameters of the modelled core. -/
def execJmpInd (ptr : Addr) (s : State) : Result := .next (jmpIndirect coreConfig ptr s)

/-- JSR abs (R149): the high byte is pushed first; the target was fetched before the pushes. -/
def execJsr (target : Addr) (s : State) : Result := .next (((s.push (hiByte s.returnAddr)).push (loByte s.returnAddr)).jump target)

/-- RTS (R150): the low byte is pulled first. -/
def execRts (s : State) : Result := .next (s.afterPull.afterPull.jump (hiLo s.afterPull.pulled s.pulled + 1))

end Sys2Proof.Machine
end

