-- ==== Sys2Proof/Machine/Shift.lean ====
section
/-! DEFINITION. ASL, LSR, ROL and ROR (42_shift_rotate R108 to R111), on A or on one byte of memory. -/

namespace Sys2Proof.Machine

/-- The accumulator form: A and the flags from the shifted A and old carry, PC + 1. -/
def shiftAcc (f : Byte → Bool → Shifted) (s : State) : State :=
  let r := f s.a s.flags.c
  { s with a := r.result, flags := s.flags.shifted r }.advance 1

/-- The memory form: one read and one write at the same address (R80, 20_memory R48). -/
def shiftMem (f : Byte → Bool → Shifted) (m : MemOperand) (s : State) : State :=
  let ea := s.effAddr m
  let r := f (s.memRead ea) s.flags.c
  { s.memWrite ea r.result with flags := s.flags.shifted r }.advance (memLength m)

/-- ASL A (R108, R68). -/
def execAslAcc (s : State) : Result := .next (shiftAcc shiftLeft s)

/-- ASL zp (R108, R70). -/
def execAslZp (b : Byte) (s : State) : Result := .next (shiftMem shiftLeft (.zp b) s)

/-- ASL zp,X (R108, R71). -/
def execAslZpx (b : Byte) (s : State) : Result := .next (shiftMem shiftLeft (.zpx b) s)

/-- ASL abs (R108, R73). -/
def execAslAbs (a : Addr) (s : State) : Result := .next (shiftMem shiftLeft (.abs a) s)

/-- ASL abs,X (R108, R74). -/
def execAslAbsx (a : Addr) (s : State) : Result := .next (shiftMem shiftLeft (.absx a) s)

/-- LSR A (R109, R68). -/
def execLsrAcc (s : State) : Result := .next (shiftAcc shiftRight s)

/-- LSR zp (R109, R70). -/
def execLsrZp (b : Byte) (s : State) : Result := .next (shiftMem shiftRight (.zp b) s)

/-- LSR zp,X (R109, R71). -/
def execLsrZpx (b : Byte) (s : State) : Result := .next (shiftMem shiftRight (.zpx b) s)

/-- LSR abs (R109, R73). -/
def execLsrAbs (a : Addr) (s : State) : Result := .next (shiftMem shiftRight (.abs a) s)

/-- LSR abs,X (R109, R74). -/
def execLsrAbsx (a : Addr) (s : State) : Result := .next (shiftMem shiftRight (.absx a) s)

/-- ROL A (R110, R68). -/
def execRolAcc (s : State) : Result := .next (shiftAcc rotateLeft s)

/-- ROL zp (R110, R70). -/
def execRolZp (b : Byte) (s : State) : Result := .next (shiftMem rotateLeft (.zp b) s)

/-- ROL zp,X (R110, R71). -/
def execRolZpx (b : Byte) (s : State) : Result := .next (shiftMem rotateLeft (.zpx b) s)

/-- ROL abs (R110, R73). -/
def execRolAbs (a : Addr) (s : State) : Result := .next (shiftMem rotateLeft (.abs a) s)

/-- ROL abs,X (R110, R74). -/
def execRolAbsx (a : Addr) (s : State) : Result := .next (shiftMem rotateLeft (.absx a) s)

/-- ROR A (R111, R68). -/
def execRorAcc (s : State) : Result := .next (shiftAcc rotateRight s)

/-- ROR zp (R111, R70). -/
def execRorZp (b : Byte) (s : State) : Result := .next (shiftMem rotateRight (.zp b) s)

/-- ROR zp,X (R111, R71). -/
def execRorZpx (b : Byte) (s : State) : Result := .next (shiftMem rotateRight (.zpx b) s)

/-- ROR abs (R111, R73). -/
def execRorAbs (a : Addr) (s : State) : Result := .next (shiftMem rotateRight (.abs a) s)

/-- ROR abs,X (R111, R74). -/
def execRorAbsx (a : Addr) (s : State) : Result := .next (shiftMem rotateRight (.absx a) s)

end Sys2Proof.Machine
end

