-- ==== Sys2Proof/Machine/Stack.lean ====
section
/-! DEFINITION. PHA, PLA, PHP and PLP (46_stack R133 to R136). -/

namespace Sys2Proof.Machine

/-- PHA (R133). -/
def execPha (s : State) : Result := .next ((s.push s.a).advance 1)

/-- PLA (R134). -/
def execPla (s : State) : Result := .next ((s.afterPull.setA s.pulled).advance 1)

/-- PHP (R135): bit 4 of the pushed byte is the live B (D9). -/
def execPhp (s : State) : Result := .next ((s.push s.flags.encodeP).advance 1)

/-- PLP (R136): bit 5 of the pulled byte is ignored. -/
def execPlp (s : State) : Result := .next ({ s.afterPull with flags := Flags.decodeP s.pulled }.advance 1)

end Sys2Proof.Machine
end

