-- ==== Sys2Proof/Machine/Loop.lean ====
section
/-! DEFINITION. The fetch-decode-execute step under given parameters (40_execution_loop R96 to R99, R102) and the
placing of an instruction's bytes. Step.lean only calls these. -/

namespace Sys2Proof.Machine

/-- The instruction at PC: the opcode byte and the bytes after it, read through the same accessor as data, with PC
wrapping at 16 bits (R97, 20_memory R50, R60). None if the opcode is unmapped. Bytes past the instruction's length
are ignored (Log 6). -/
def State.fetch (cfg : Config) (s : State) : Option Instr :=
  decodeBytes cfg (s.memRead s.pc) (s.memRead (s.pc + 1)) (s.memRead (s.pc + 2))

/-- The meaning of an instruction under given parameters. Indirect JMP is the only one a parameter changes (00_scope R9,
D6); `exec` is this meaning under `coreConfig`. -/
def execWith (cfg : Config) (i : Instr) (s : State) : Result :=
  match i with
  | .jmpInd ptr => .next (jmpIndirect cfg ptr s)
  | other => exec other s

/-- What a step on a jammed core answers: no step, since the state is terminal (R102, D13, U2; Log 3). -/
def jammedStep : Result := .fault .jammed

/-- One step under given parameters (R97), its events in the order of 60_exceptions R170: jammed, then an unmapped
opcode, then the handler. -/
def stepWith (cfg : Config) (s : State) : Result :=
  if s.jammed then jammedStep
  else
    match s.fetch cfg with
    | none => raiseUnknownOpcode (s.memRead s.pc)
    | some i => execWith cfg i s

/-- One step of the modelled core. -/
def coreStep (s : State) : Result := stepWith coreConfig s

/-- Bytes written at consecutive addresses, wrapping at 16 bits. -/
def State.placeBytes (s : State) (addr : Addr) : List Byte → State
  | [] => s
  | v :: rest => State.placeBytes (s.memWrite addr v) (addr + 1) rest

/-- A running core with the three bytes of a table word at PC (Log 7). -/
def State.withTableWord (s : State) (nbits w : Nat) : State :=
  { s.placeBytes s.pc (tableBytes nbits w) with jammed := false }

end Sys2Proof.Machine
end

