-- ==== Sys2Proof/Machine/Step.lean ====
section
/-! DEFINITION. The step the host runs, and the placing of the next instruction. -/

namespace Sys2Proof.Machine

/-- One step: one instruction as one indivisible transaction (40_execution_loop R96). -/
def step (s : State) : Host.Outcome State Fault Refusal := coreStep s

/-- The state with an instruction's bytes where the next step fetches: at PC. The core must run to fetch, so `jammed` is
cleared. It stands for the host's load of a program by `writeByte` (R103; Log 7). -/
def State.withFetchWord (s : State) (nbits w : Nat) : State := s.withTableWord nbits w

end Sys2Proof.Machine
end

