-- ==== Sys2Proof/Machine/HostInterface.lean ====
section
/-! DEFINITION. The core's interface to its host (40_execution_loop R95): the operations a host calls between steps, the
result `step()` gives it, and `run()` under fuel. `new()` is `State.reset`; the read accessors (10_state R39) are the
fields of State, `State.memRead`, `Flags.encodeP` and `Flags.unused`. -/

namespace Sys2Proof.Machine

/-- `writeByte(addr, v)` (R95, R103). -/
def State.writeByte (s : State) (addr : Addr) (v : Byte) : State := s.memWrite addr v

/-- `setPC(addr)` (R95, D12). -/
def State.setPC (s : State) (addr : Addr) : State := s.jump addr

/-- The execution loop's states (10_state R37). -/
inductive LoopState
  | running
  | jammed
  deriving DecidableEq, Repr

/-- The loop's state, a function of the `jammed` flag (R37). -/
def State.loopState (s : State) : LoopState := if s.jammed then .jammed else .running

/-- What `step()` returns (60_exceptions R163). -/
inductive StepResult
  | ok
  | unknownOpcode (op : Byte)
  deriving DecidableEq, Repr

/-- `step()` as the host calls it (R97): the state and the result. On a jammed core and on an unmapped opcode the state
is unchanged (R102, R164). -/
def stepCall (cfg : Config) (s : State) : State × StepResult :=
  match stepWith cfg s with
  | .next t => (t, .ok)
  | .fault .jammed => (s, .ok)
  | .fault (.unknownOpcode op) => (s, .unknownOpcode op)
  | .refused _ => (s, .ok)

/-- What `run()` returns (R100), or that the fuel ran out, which is no ending (R104, D18; Log 8). -/
inductive RunResult
  | jammed
  | unknownOpcode (op : Byte)
  | noResultYet
  deriving DecidableEq, Repr

/-- `run()` with at most `fuel` steps (R100). -/
def runCall (cfg : Config) : Nat → State → State × RunResult
  | 0, s => (s, if s.jammed then .jammed else .noResultYet)
  | fuel + 1, s =>
    if s.jammed then (s, .jammed)
    else
      match stepCall cfg s with
      | (t, .ok) => runCall cfg fuel t
      | (t, .unknownOpcode op) => (t, .unknownOpcode op)

end Sys2Proof.Machine
end

