-- ==== Sys2Proof/Safety.lean ====
section
/-! DEFINITION. What claims about the machine are stated in: the invariant of its states, and what a run reaches. -/

namespace Sys2Proof.Machine

/-- The invariant: memory is in canonical form, every address in the 64 KiB space of 20_memory R41. Every other component
is in range by its type (10_state R24). -/
abbrev State.Inv (s : State) : Prop := Memory.wf s.mem = true

/-- `t` is reached from `s` by steps that answer a next state. -/
inductive Reaches : State → State → Prop
  | refl (s : State) : Reaches s s
  | tail {s t u : State} (h : Reaches s t) (hstep : step t = .next u) : Reaches s u

/-- The core can go on: the next step answers a next state (R163, R165: neither an unmapped opcode nor jammed). -/
def State.CanStep (s : State) : Prop := ∃ t, step s = .next t

end Sys2Proof.Machine
end

