-- ==== Sys2Proof/Certificates/Slice0/Obligations.lean ====
section
/-! DEFINITION. The statements about the model, and the vocabulary they are written in. Each docstring names the rules of
spec/ a statement formalises. Numbers are the spec's own arithmetic (00_scope R12), written in Nat and Int. -/

open Sys2Proof Sys2Proof.Machine

namespace Sys2Proof.Claims

/-- The bytes decode to the instruction under the parameters `cfg`, and from `s` the instruction completes, in a state of
which `post` holds. -/
def Runs (cfg : Config) (bytes : List Byte) (i : Instr) (s : State) (post : State → Prop) : Prop :=
  decode cfg bytes = .ok i ∧ ∃ t, exec i s = .next t ∧ post t

/-- PC moved on by `n`, modulo 65536. -/
def PcPast (n : Nat) (s t : State) : Prop := t.pc.toNat = (s.pc.toNat + n) % 65536

/-- Every byte of memory reads as before. -/
def SameMemory (s t : State) : Prop := ∀ addr : Addr, t.memRead addr = s.memRead addr

/-- Every byte of memory but one reads as before. -/
def SameMemoryBut (ea : Addr) (s t : State) : Prop := ∀ addr : Addr, addr ≠ ea → t.memRead addr = s.memRead addr

/-- A, X, Y and SP are as before. -/
def SameRegisters (s t : State) : Prop := t.a = s.a ∧ t.x = s.x ∧ t.y = s.y ∧ t.sp = s.sp

/-- Z and N from an 8-bit result (10_state R31). -/
def ZNFrom (r : Byte) (p : Flags) : Prop := (p.z = true ↔ r.toNat = 0) ∧ (p.n = true ↔ 128 ≤ r.toNat)

/-- I, D, B and V are as before. -/
def SameIDBV (s t : State) : Prop :=
  t.flags.i = s.flags.i ∧ t.flags.d = s.flags.d ∧ t.flags.b = s.flags.b ∧ t.flags.v = s.flags.v

/-- Z and N from `r`, every other flag as before. -/
def OnlyZN (r : Byte) (s t : State) : Prop := ZNFrom r t.flags ∧ t.flags.c = s.flags.c ∧ SameIDBV s t

/-- A read-type form: its bytes, its instruction, its operand. -/
structure ReadForm where
  bytes : List Byte
  instr : Instr
  operand : Operand

/-- A form with a memory operand: its bytes, its instruction, its operand. -/
structure MemForm where
  bytes : List Byte
  instr : Instr
  operand : MemOperand

/-- ORA: its bytes, its instruction and its operand in every mode of 30_encoding R83. -/
def oraForms (v b lo hi : Byte) : List ReadForm :=
  [⟨[0x09, v], .oraImm v, .imm v⟩, ⟨[0x05, b], .oraZp b, .mem (.zp b)⟩,
   ⟨[0x15, b], .oraZpx b, .mem (.zpx b)⟩, ⟨[0x0D, lo, hi], .oraAbs (hiLo hi lo), .mem (.abs (hiLo hi lo))⟩,
   ⟨[0x1D, lo, hi], .oraAbsx (hiLo hi lo), .mem (.absx (hiLo hi lo))⟩,
   ⟨[0x19, lo, hi], .oraAbsy (hiLo hi lo), .mem (.absy (hiLo hi lo))⟩,
   ⟨[0x01, b], .oraIndx b, .mem (.indx b)⟩, ⟨[0x11, b], .oraIndy b, .mem (.indy b)⟩]

/-- AND: its bytes, its instruction and its operand in every mode of 30_encoding R83. -/
def andForms (v b lo hi : Byte) : List ReadForm :=
  [⟨[0x29, v], .andImm v, .imm v⟩, ⟨[0x25, b], .andZp b, .mem (.zp b)⟩,
   ⟨[0x35, b], .andZpx b, .mem (.zpx b)⟩, ⟨[0x2D, lo, hi], .andAbs (hiLo hi lo), .mem (.abs (hiLo hi lo))⟩,
   ⟨[0x3D, lo, hi], .andAbsx (hiLo hi lo), .mem (.absx (hiLo hi lo))⟩,
   ⟨[0x39, lo, hi], .andAbsy (hiLo hi lo), .mem (.absy (hiLo hi lo))⟩,
   ⟨[0x21, b], .andIndx b, .mem (.indx b)⟩, ⟨[0x31, b], .andIndy b, .mem (.indy b)⟩]

/-- EOR: its bytes, its instruction and its operand in every mode of 30_encoding R83. -/
def eorForms (v b lo hi : Byte) : List ReadForm :=
  [⟨[0x49, v], .eorImm v, .imm v⟩, ⟨[0x45, b], .eorZp b, .mem (.zp b)⟩,
   ⟨[0x55, b], .eorZpx b, .mem (.zpx b)⟩, ⟨[0x4D, lo, hi], .eorAbs (hiLo hi lo), .mem (.abs (hiLo hi lo))⟩,
   ⟨[0x5D, lo, hi], .eorAbsx (hiLo hi lo), .mem (.absx (hiLo hi lo))⟩,
   ⟨[0x59, lo, hi], .eorAbsy (hiLo hi lo), .mem (.absy (hiLo hi lo))⟩,
   ⟨[0x41, b], .eorIndx b, .mem (.indx b)⟩, ⟨[0x51, b], .eorIndy b, .mem (.indy b)⟩]

/-- CMP: its bytes, its instruction and its operand in every mode of 30_encoding R83. -/
def cmpForms (v b lo hi : Byte) : List ReadForm :=
  [⟨[0xC9, v], .cmpImm v, .imm v⟩, ⟨[0xC5, b], .cmpZp b, .mem (.zp b)⟩,
   ⟨[0xD5, b], .cmpZpx b, .mem (.zpx b)⟩, ⟨[0xCD, lo, hi], .cmpAbs (hiLo hi lo), .mem (.abs (hiLo hi lo))⟩,
   ⟨[0xDD, lo, hi], .cmpAbsx (hiLo hi lo), .mem (.absx (hiLo hi lo))⟩,
   ⟨[0xD9, lo, hi], .cmpAbsy (hiLo hi lo), .mem (.absy (hiLo hi lo))⟩,
   ⟨[0xC1, b], .cmpIndx b, .mem (.indx b)⟩, ⟨[0xD1, b], .cmpIndy b, .mem (.indy b)⟩]

/-- CPX: its bytes, its instruction and its operand in every mode of 30_encoding R83. -/
def cpxForms (v b lo hi : Byte) : List ReadForm :=
  [⟨[0xE0, v], .cpxImm v, .imm v⟩, ⟨[0xE4, b], .cpxZp b, .mem (.zp b)⟩,
   ⟨[0xEC, lo, hi], .cpxAbs (hiLo hi lo), .mem (.abs (hiLo hi lo))⟩]

/-- CPY: its bytes, its instruction and its operand in every mode of 30_encoding R83. -/
def cpyForms (v b lo hi : Byte) : List ReadForm :=
  [⟨[0xC0, v], .cpyImm v, .imm v⟩, ⟨[0xC4, b], .cpyZp b, .mem (.zp b)⟩,
   ⟨[0xCC, lo, hi], .cpyAbs (hiLo hi lo), .mem (.abs (hiLo hi lo))⟩]

/-- LDA: its bytes, its instruction and its operand in every mode of 30_encoding R83. -/
def ldaForms (v b lo hi : Byte) : List ReadForm :=
  [⟨[0xA9, v], .ldaImm v, .imm v⟩, ⟨[0xA5, b], .ldaZp b, .mem (.zp b)⟩,
   ⟨[0xB5, b], .ldaZpx b, .mem (.zpx b)⟩, ⟨[0xAD, lo, hi], .ldaAbs (hiLo hi lo), .mem (.abs (hiLo hi lo))⟩,
   ⟨[0xBD, lo, hi], .ldaAbsx (hiLo hi lo), .mem (.absx (hiLo hi lo))⟩,
   ⟨[0xB9, lo, hi], .ldaAbsy (hiLo hi lo), .mem (.absy (hiLo hi lo))⟩,
   ⟨[0xA1, b], .ldaIndx b, .mem (.indx b)⟩, ⟨[0xB1, b], .ldaIndy b, .mem (.indy b)⟩]

/-- LDX: its bytes, its instruction and its operand in every mode of 30_encoding R83. -/
def ldxForms (v b lo hi : Byte) : List ReadForm :=
  [⟨[0xA2, v], .ldxImm v, .imm v⟩, ⟨[0xA6, b], .ldxZp b, .mem (.zp b)⟩,
   ⟨[0xB6, b], .ldxZpy b, .mem (.zpy b)⟩, ⟨[0xAE, lo, hi], .ldxAbs (hiLo hi lo), .mem (.abs (hiLo hi lo))⟩,
   ⟨[0xBE, lo, hi], .ldxAbsy (hiLo hi lo), .mem (.absy (hiLo hi lo))⟩]

/-- LDY: its bytes, its instruction and its operand in every mode of 30_encoding R83. -/
def ldyForms (v b lo hi : Byte) : List ReadForm :=
  [⟨[0xA0, v], .ldyImm v, .imm v⟩, ⟨[0xA4, b], .ldyZp b, .mem (.zp b)⟩,
   ⟨[0xB4, b], .ldyZpx b, .mem (.zpx b)⟩, ⟨[0xAC, lo, hi], .ldyAbs (hiLo hi lo), .mem (.abs (hiLo hi lo))⟩,
   ⟨[0xBC, lo, hi], .ldyAbsx (hiLo hi lo), .mem (.absx (hiLo hi lo))⟩]

/-- BIT: its bytes, its instruction and its operand in every mode of 30_encoding R83. -/
def bitForms (b lo hi : Byte) : List MemForm :=
  [⟨[0x24, b], .bitZp b, .zp b⟩, ⟨[0x2C, lo, hi], .bitAbs (hiLo hi lo), .abs (hiLo hi lo)⟩]

/-- ASL: its bytes, its instruction and its operand in every mode of 30_encoding R83. -/
def aslForms (b lo hi : Byte) : List MemForm :=
  [⟨[0x06, b], .aslZp b, .zp b⟩, ⟨[0x16, b], .aslZpx b, .zpx b⟩,
   ⟨[0x0E, lo, hi], .aslAbs (hiLo hi lo), .abs (hiLo hi lo)⟩,
   ⟨[0x1E, lo, hi], .aslAbsx (hiLo hi lo), .absx (hiLo hi lo)⟩]

/-- LSR: its bytes, its instruction and its operand in every mode of 30_encoding R83. -/
def lsrForms (b lo hi : Byte) : List MemForm :=
  [⟨[0x46, b], .lsrZp b, .zp b⟩, ⟨[0x56, b], .lsrZpx b, .zpx b⟩,
   ⟨[0x4E, lo, hi], .lsrAbs (hiLo hi lo), .abs (hiLo hi lo)⟩,
   ⟨[0x5E, lo, hi], .lsrAbsx (hiLo hi lo), .absx (hiLo hi lo)⟩]

/-- ROL: its bytes, its instruction and its operand in every mode of 30_encoding R83. -/
def rolForms (b lo hi : Byte) : List MemForm :=
  [⟨[0x26, b], .rolZp b, .zp b⟩, ⟨[0x36, b], .rolZpx b, .zpx b⟩,
   ⟨[0x2E, lo, hi], .rolAbs (hiLo hi lo), .abs (hiLo hi lo)⟩,
   ⟨[0x3E, lo, hi], .rolAbsx (hiLo hi lo), .absx (hiLo hi lo)⟩]

/-- ROR: its bytes, its instruction and its operand in every mode of 30_encoding R83. -/
def rorForms (b lo hi : Byte) : List MemForm :=
  [⟨[0x66, b], .rorZp b, .zp b⟩, ⟨[0x76, b], .rorZpx b, .zpx b⟩,
   ⟨[0x6E, lo, hi], .rorAbs (hiLo hi lo), .abs (hiLo hi lo)⟩,
   ⟨[0x7E, lo, hi], .rorAbsx (hiLo hi lo), .absx (hiLo hi lo)⟩]

/-- STA: its bytes, its instruction and its operand in every mode of 30_encoding R83. -/
def staForms (b lo hi : Byte) : List MemForm :=
  [⟨[0x85, b], .staZp b, .zp b⟩, ⟨[0x95, b], .staZpx b, .zpx b⟩,
   ⟨[0x8D, lo, hi], .staAbs (hiLo hi lo), .abs (hiLo hi lo)⟩,
   ⟨[0x9D, lo, hi], .staAbsx (hiLo hi lo), .absx (hiLo hi lo)⟩,
   ⟨[0x99, lo, hi], .staAbsy (hiLo hi lo), .absy (hiLo hi lo)⟩, ⟨[0x81, b], .staIndx b, .indx b⟩,
   ⟨[0x91, b], .staIndy b, .indy b⟩]

/-- STX: its bytes, its instruction and its operand in every mode of 30_encoding R83. -/
def stxForms (b lo hi : Byte) : List MemForm :=
  [⟨[0x86, b], .stxZp b, .zp b⟩, ⟨[0x96, b], .stxZpy b, .zpy b⟩,
   ⟨[0x8E, lo, hi], .stxAbs (hiLo hi lo), .abs (hiLo hi lo)⟩]

/-- STY: its bytes, its instruction and its operand in every mode of 30_encoding R83. -/
def styForms (b lo hi : Byte) : List MemForm :=
  [⟨[0x84, b], .styZp b, .zp b⟩, ⟨[0x94, b], .styZpx b, .zpx b⟩,
   ⟨[0x8C, lo, hi], .styAbs (hiLo hi lo), .abs (hiLo hi lo)⟩]

/-! The opcode map by mnemonic (30_encoding R83): mnemonic, mode, byte -/

def bitwiseEntries : List (Mnemonic × Mode × Byte) :=
  [(.ora, .imm, 0x09), (.ora, .zp, 0x05), (.ora, .zpx, 0x15), (.ora, .abs, 0x0D), (.ora, .absx, 0x1D),
   (.ora, .absy, 0x19), (.ora, .indx, 0x01), (.ora, .indy, 0x11), (.and, .imm, 0x29), (.and, .zp, 0x25),
   (.and, .zpx, 0x35), (.and, .abs, 0x2D), (.and, .absx, 0x3D), (.and, .absy, 0x39), (.and, .indx, 0x21),
   (.and, .indy, 0x31), (.eor, .imm, 0x49), (.eor, .zp, 0x45), (.eor, .zpx, 0x55), (.eor, .abs, 0x4D),
   (.eor, .absx, 0x5D), (.eor, .absy, 0x59), (.eor, .indx, 0x41), (.eor, .indy, 0x51)]

def shiftEntries : List (Mnemonic × Mode × Byte) :=
  [(.asl, .acc, 0x0A), (.asl, .zp, 0x06), (.asl, .zpx, 0x16), (.asl, .abs, 0x0E), (.asl, .absx, 0x1E),
   (.lsr, .acc, 0x4A), (.lsr, .zp, 0x46), (.lsr, .zpx, 0x56), (.lsr, .abs, 0x4E), (.lsr, .absx, 0x5E),
   (.rol, .acc, 0x2A), (.rol, .zp, 0x26), (.rol, .zpx, 0x36), (.rol, .abs, 0x2E), (.rol, .absx, 0x3E),
   (.ror, .acc, 0x6A), (.ror, .zp, 0x66), (.ror, .zpx, 0x76), (.ror, .abs, 0x6E), (.ror, .absx, 0x7E)]

def compareEntries : List (Mnemonic × Mode × Byte) :=
  [(.cmp, .imm, 0xC9), (.cmp, .zp, 0xC5), (.cmp, .zpx, 0xD5), (.cmp, .abs, 0xCD), (.cmp, .absx, 0xDD),
   (.cmp, .absy, 0xD9), (.cmp, .indx, 0xC1), (.cmp, .indy, 0xD1), (.cpx, .imm, 0xE0), (.cpx, .zp, 0xE4),
   (.cpx, .abs, 0xEC), (.cpy, .imm, 0xC0), (.cpy, .zp, 0xC4), (.cpy, .abs, 0xCC), (.bit, .zp, 0x24),
   (.bit, .abs, 0x2C)]

def loadEntries : List (Mnemonic × Mode × Byte) :=
  [(.lda, .imm, 0xA9), (.lda, .zp, 0xA5), (.lda, .zpx, 0xB5), (.lda, .abs, 0xAD), (.lda, .absx, 0xBD),
   (.lda, .absy, 0xB9), (.lda, .indx, 0xA1), (.lda, .indy, 0xB1), (.ldx, .imm, 0xA2), (.ldx, .zp, 0xA6),
   (.ldx, .zpy, 0xB6), (.ldx, .abs, 0xAE), (.ldx, .absy, 0xBE), (.ldy, .imm, 0xA0), (.ldy, .zp, 0xA4),
   (.ldy, .zpx, 0xB4), (.ldy, .abs, 0xAC), (.ldy, .absx, 0xBC)]

def storeEntries : List (Mnemonic × Mode × Byte) :=
  [(.sta, .zp, 0x85), (.sta, .zpx, 0x95), (.sta, .abs, 0x8D), (.sta, .absx, 0x9D), (.sta, .absy, 0x99),
   (.sta, .indx, 0x81), (.sta, .indy, 0x91), (.stx, .zp, 0x86), (.stx, .zpy, 0x96), (.stx, .abs, 0x8E),
   (.sty, .zp, 0x84), (.sty, .zpx, 0x94), (.sty, .abs, 0x8C)]

def registerEntries : List (Mnemonic × Mode × Byte) :=
  [(.tax, .imp, 0xAA), (.tay, .imp, 0xA8), (.txa, .imp, 0x8A), (.tya, .imp, 0x98), (.tsx, .imp, 0xBA),
   (.txs, .imp, 0x9A), (.inx, .imp, 0xE8), (.iny, .imp, 0xC8), (.dex, .imp, 0xCA), (.dey, .imp, 0x88),
   (.pha, .imp, 0x48), (.pla, .imp, 0x68), (.php, .imp, 0x08), (.plp, .imp, 0x28)]

def controlEntries : List (Mnemonic × Mode × Byte) :=
  [(.bpl, .rel, 0x10), (.bmi, .rel, 0x30), (.bvc, .rel, 0x50), (.bvs, .rel, 0x70), (.bcc, .rel, 0x90),
   (.bcs, .rel, 0xB0), (.bne, .rel, 0xD0), (.beq, .rel, 0xF0), (.jmp, .abs, 0x4C), (.jmp, .ind, 0x6C),
   (.jsr, .abs, 0x20), (.rts, .imp, 0x60)]

def flagEntries : List (Mnemonic × Mode × Byte) :=
  [(.clc, .imp, 0x18), (.sec, .imp, 0x38), (.cli, .imp, 0x58), (.sei, .imp, 0x78), (.cld, .imp, 0xD8),
   (.sed, .imp, 0xF8), (.clv, .imp, 0xB8), (.brk, .imp, 0x00), (.nop, .imp, 0xEA)]

/-- The 126 fixed entries of R83. -/
def opcodeMap : List (Mnemonic × Mode × Byte) :=
  bitwiseEntries ++ shiftEntries ++ compareEntries ++ loadEntries ++ storeEntries ++
  registerEntries ++ controlEntries ++ flagEntries

/-- The seven SLO encodings (00_scope R9). -/
def sloEncodings (b lo hi : Byte) : List (List Byte × SloOperand) :=
  [([0x03, b], .indx b), ([0x07, b], .zp b), ([0x0F, lo, hi], .abs (hiLo hi lo)), ([0x13, b], .indy b),
   ([0x17, b], .zpx b), ([0x1B, lo, hi], .absy (hiLo hi lo)), ([0x1F, lo, hi], .absx (hiLo hi lo))]

/-- What ORA, AND and EOR do with the operand value `m` (41_bitwise). -/
def BitwiseEffect (op : Byte → Byte → Byte) (m : Byte) (len : Nat) (s t : State) : Prop :=
  t.a = op s.a m ∧ OnlyZN t.a s t ∧ PcPast len s t ∧ t.x = s.x ∧ t.y = s.y ∧ t.sp = s.sp ∧ t.jammed = s.jammed ∧
  SameMemory s t

/-- A byte shifted left with `low` entering bit 0, and the bit shifted out (R108, R110). -/
def ShiftedLeft (low : Nat) (v r : Byte) (carry : Bool) : Prop :=
  r.toNat = v.toNat * 2 % 256 + low ∧ (carry = true ↔ 128 ≤ v.toNat)

/-- A byte shifted right with `high` entering bit 7, and the bit shifted out (R109, R111). -/
def ShiftedRight (high : Nat) (v r : Byte) (carry : Bool) : Prop :=
  r.toNat = v.toNat / 2 + high * 128 ∧ (carry = true ↔ v.toNat % 2 = 1)

/-- A shift or rotate of A: `rel` relates the old value, the new value and the new C. -/
def ShiftsA (rel : Byte → Byte → Bool → Prop) (s t : State) : Prop :=
  rel s.a t.a t.flags.c ∧ ZNFrom t.a t.flags ∧ SameIDBV s t ∧ PcPast 1 s t ∧ t.x = s.x ∧ t.y = s.y ∧ t.sp = s.sp ∧
  t.jammed = s.jammed ∧ SameMemory s t

/-- A shift or rotate of the byte at `ea`. -/
def ShiftsAt (rel : Byte → Byte → Bool → Prop) (ea : Addr) (len : Nat) (s t : State) : Prop :=
  rel (s.memRead ea) (t.memRead ea) t.flags.c ∧ ZNFrom (t.memRead ea) t.flags ∧ SameIDBV s t ∧ PcPast len s t ∧
  SameRegisters s t ∧ t.jammed = s.jammed ∧ SameMemoryBut ea s t

/-- A shift or rotate in all its forms: the accumulator form, and the memory forms on canonical memory. -/
def ShiftsInEveryForm (rel : State → Byte → Byte → Bool → Prop) (accByte : Byte) (accInstr : Instr) (forms : List MemForm)
    (cfg : Config) (s : State) : Prop :=
  Runs cfg [accByte] accInstr s (ShiftsA (rel s) s) ∧
  ∀ f ∈ forms, s.Inv → Runs cfg f.bytes f.instr s (ShiftsAt (rel s) (s.effAddr f.operand) f.bytes.length s)

/-- What a compare of `r` with `m` does (43_compare_bit). -/
def CompareEffect (r m : Byte) (len : Nat) (s t : State) : Prop :=
  (t.flags.z = true ↔ r = m) ∧ (t.flags.n = true ↔ 128 ≤ (r.toNat + 256 - m.toNat) % 256) ∧
  (t.flags.c = true ↔ m.toNat ≤ r.toNat) ∧ SameIDBV s t ∧ PcPast len s t ∧ SameRegisters s t ∧ t.jammed = s.jammed ∧
  SameMemory s t

/-- What a store of `v` at `ea` does (44_load_store_transfer): no flag changes. -/
def StoreEffect (v : Byte) (ea : Addr) (len : Nat) (s t : State) : Prop :=
  t.memRead ea = v ∧ SameMemoryBut ea s t ∧ PcPast len s t ∧ t.flags = s.flags ∧ SameRegisters s t ∧ t.jammed = s.jammed

/-- A new A with Z and N from it, PC past `len` bytes, nothing else. -/
def SetsA (v : Byte) (len : Nat) (s t : State) : Prop :=
  t.a = v ∧ OnlyZN v s t ∧ PcPast len s t ∧ t.x = s.x ∧ t.y = s.y ∧ t.sp = s.sp ∧ t.jammed = s.jammed ∧ SameMemory s t

/-- A new X with Z and N from it, PC past `len` bytes, nothing else. -/
def SetsX (v : Byte) (len : Nat) (s t : State) : Prop :=
  t.x = v ∧ OnlyZN v s t ∧ PcPast len s t ∧ t.a = s.a ∧ t.y = s.y ∧ t.sp = s.sp ∧ t.jammed = s.jammed ∧ SameMemory s t

/-- A new Y with Z and N from it, PC past `len` bytes, nothing else. -/
def SetsY (v : Byte) (len : Nat) (s t : State) : Prop :=
  t.y = v ∧ OnlyZN v s t ∧ PcPast len s t ∧ t.a = s.a ∧ t.x = s.x ∧ t.sp = s.sp ∧ t.jammed = s.jammed ∧ SameMemory s t

/-- `v` pushed: written at the free byte, SP down by 1 modulo 256, every other byte as before (46_stack R132). -/
def Pushed (v : Byte) (s t : State) : Prop :=
  t.memRead (stackAddr s.sp) = v ∧ SameMemoryBut (stackAddr s.sp) s t ∧ t.sp.toNat = (s.sp.toNat + 255) % 256

/-- The branch offset byte read as two's complement (47_branch R137). -/
def offset (off : Byte) : Int := if off.toNat < 128 then off.toNat else (off.toNat : Int) - 256

/-- The eight branches: opcode byte, instruction, and whether its condition holds (47_branch). -/
def branches (off : Byte) (p : Flags) : List (Byte × Instr × Bool) :=
  [(0x10, .bpl off, p.n == false), (0x30, .bmi off, p.n == true), (0x50, .bvc off, p.v == false),
   (0x70, .bvs off, p.v == true), (0x90, .bcc off, p.c == false), (0xB0, .bcs off, p.c == true),
   (0xD0, .bne off, p.z == false), (0xF0, .beq off, p.z == true)]

/-- The seven flag instructions: opcode byte, instruction, and the flags after it (49_flags_system_illegal). -/
def flagInstrs (p : Flags) : List (Byte × Instr × Flags) :=
  [(0x18, .clc, { p with c := false }), (0x38, .sec, { p with c := true }), (0x58, .cli, { p with i := false }),
   (0x78, .sei, { p with i := true }), (0xD8, .cld, { p with d := false }), (0xF8, .sed, { p with d := true }),
   (0xB8, .clv, { p with v := false })]

/-- The bytes at PC and on from it, wrapping at 16 bits. -/
def BytesAt (s : State) (bytes : List Byte) : Prop :=
  ∀ k, (h : k < bytes.length) → s.memRead (s.pc + BitVec.ofNat 16 k) = bytes[k]

/-- Where the spec says the high byte of an indirect target is read (30_encoding R76). -/
def specHighAddr (pageWrap : Bool) (ptr : Addr) : Addr :=
  if pageWrap then (ptr &&& 0xFF00) ||| ((ptr + 1) &&& 0x00FF) else ptr + 1

/-- An indirect JMP through `ptr` (48_jump_subroutine R148): only PC changes. -/
def GoesThrough (pageWrap : Bool) (ptr : Addr) (s t : State) : Prop :=
  t.pc.toNat = (s.memRead (specHighAddr pageWrap ptr)).toNat * 256 + (s.memRead ptr).toNat ∧ t.flags = s.flags ∧
  SameRegisters s t ∧ t.jammed = s.jammed ∧ SameMemory s t

/-- PC after an instruction, class by class, from the state before it (10_state R26). -/
def pcAfter (i : Instr) (s : State) : Addr :=
  match i with
  | .bpl off => if s.flags.n = false then s.pc + 2 + sext16 off else s.pc + 2
  | .bmi off => if s.flags.n = true then s.pc + 2 + sext16 off else s.pc + 2
  | .bvc off => if s.flags.v = false then s.pc + 2 + sext16 off else s.pc + 2
  | .bvs off => if s.flags.v = true then s.pc + 2 + sext16 off else s.pc + 2
  | .bcc off => if s.flags.c = false then s.pc + 2 + sext16 off else s.pc + 2
  | .bcs off => if s.flags.c = true then s.pc + 2 + sext16 off else s.pc + 2
  | .bne off => if s.flags.z = false then s.pc + 2 + sext16 off else s.pc + 2
  | .beq off => if s.flags.z = true then s.pc + 2 + sext16 off else s.pc + 2
  | .jmpAbs target | .jsr target => target
  | .jmpInd ptr => s.indirectTarget coreConfig.jmpIndPageWrap ptr
  | .rts => hiLo (s.memRead (stackAddr (s.sp + 2))) (s.memRead (stackAddr (s.sp + 1))) + 1
  | .brk => s.pc + 2
  | .jam => s.pc
  | other => s.pc + BitVec.ofNat 16 (1 + other.mode.operandBytes)

/-- The mnemonics that may write C (10_state R33). -/
def writesC : List Mnemonic := [.asl, .lsr, .rol, .ror, .slo, .cmp, .cpx, .cpy, .clc, .sec, .plp]

/-- The mnemonics that may write Z and N (10_state R33). -/
def writesZN : List Mnemonic :=
  [.ora, .and, .eor, .asl, .lsr, .rol, .ror, .cmp, .cpx, .cpy, .lda, .ldx, .ldy, .tax, .tay, .txa, .tya, .tsx, .inx, .iny,
   .dex, .dey, .pla, .slo, .bit, .plp]

/-- The mnemonics that write A (10_state R21). -/
def writesA : List Mnemonic := [.lda, .txa, .tya, .pla, .ora, .and, .eor, .asl, .lsr, .rol, .ror, .slo]

/-- Two states that agree on everything but the flags I, D and B. -/
def AgreeButIDB (s t : State) : Prop :=
  t.pc = s.pc ∧ SameRegisters s t ∧ t.mem = s.mem ∧ t.jammed = s.jammed ∧ t.flags.c = s.flags.c ∧ t.flags.z = s.flags.z ∧
  t.flags.v = s.flags.v ∧ t.flags.n = s.flags.n

/-- The addresses an instruction stores to, by the functions its meaning uses. -/
def storedAddrs : Instr → State → List Addr
  | .aslZp b, s => [s.effAddr (.zp b)]
  | .aslZpx b, s => [s.effAddr (.zpx b)]
  | .aslAbs a, s => [s.effAddr (.abs a)]
  | .aslAbsx a, s => [s.effAddr (.absx a)]
  | .lsrZp b, s => [s.effAddr (.zp b)]
  | .lsrZpx b, s => [s.effAddr (.zpx b)]
  | .lsrAbs a, s => [s.effAddr (.abs a)]
  | .lsrAbsx a, s => [s.effAddr (.absx a)]
  | .rolZp b, s => [s.effAddr (.zp b)]
  | .rolZpx b, s => [s.effAddr (.zpx b)]
  | .rolAbs a, s => [s.effAddr (.abs a)]
  | .rolAbsx a, s => [s.effAddr (.absx a)]
  | .rorZp b, s => [s.effAddr (.zp b)]
  | .rorZpx b, s => [s.effAddr (.zpx b)]
  | .rorAbs a, s => [s.effAddr (.abs a)]
  | .rorAbsx a, s => [s.effAddr (.absx a)]
  | .staZp b, s => [s.effAddr (.zp b)]
  | .staZpx b, s => [s.effAddr (.zpx b)]
  | .staAbs a, s => [s.effAddr (.abs a)]
  | .staAbsx a, s => [s.effAddr (.absx a)]
  | .staAbsy a, s => [s.effAddr (.absy a)]
  | .staIndx b, s => [s.effAddr (.indx b)]
  | .staIndy b, s => [s.effAddr (.indy b)]
  | .stxZp b, s => [s.effAddr (.zp b)]
  | .stxZpy b, s => [s.effAddr (.zpy b)]
  | .stxAbs a, s => [s.effAddr (.abs a)]
  | .styZp b, s => [s.effAddr (.zp b)]
  | .styZpx b, s => [s.effAddr (.zpx b)]
  | .styAbs a, s => [s.effAddr (.abs a)]
  | .slo o, s => [s.effAddr o.toMem]
  | .pha, s | .php, s => [stackAddr s.sp]
  | .jsr _, s => [stackAddr s.sp, stackAddr (s.sp - 1)]
  | _, _ => []

end Sys2Proof.Claims

open Sys2Proof.Claims

/-! Encoding and decoding -/

/-- Words of several families, written bit by bit from 30_encoding R64 and R83, decode to their instructions. The byte
values are the spec's choice D2, but for A9. -/
def Obligations.WordsWrittenFromTheMapDecode : Prop :=
  ∀ (cfg : Config) (b lo hi : Byte),
    decode cfg [0b10101001, b] = .ok (.ldaImm b) ∧ decode cfg [0b00110001, b] = .ok (.andIndy b) ∧
    decode cfg [0b01101010] = .ok .rorAcc ∧ decode cfg [0b11011101, lo, hi] = .ok (.cmpAbsx (hiLo hi lo)) ∧
    decode cfg [0b10010110, b] = .ok (.stxZpy b) ∧ decode cfg [0b11010000, b] = .ok (.bne b) ∧
    decode cfg [0b01101100, lo, hi] = .ok (.jmpInd (hiLo hi lo)) ∧ decode cfg [0b00101000] = .ok .plp ∧
    decode cfg [0b11001010] = .ok .dex ∧ decode cfg [0b00000000, b] = .ok .brk

/-- Decoding the encoding of any well-formed instruction gives it back, whatever bytes follow and whatever the
parameters: every operand, at every value. -/
def Obligations.DecodeOfEncodeIsTheInstruction : Prop :=
  ∀ (cfg : Config) (i : Instr) (rest : List Byte), wellFormed cfg i = true → decode cfg (encode cfg i ++ rest) = .ok i

/-- The other direction: bytes that decode begin with the encoding of what they decode to, which is well formed; for BRK,
whose padding byte is not read (R159, D16), they begin with its opcode byte. -/
def Obligations.DecodedBytesBeginWithTheEncoding : Prop :=
  ∀ (cfg : Config) (bytes : List Byte) (i : Instr), decode cfg bytes = .ok i →
    wellFormed cfg i = true ∧ (i ≠ .brk → ∃ rest, bytes = encode cfg i ++ rest) ∧
    (i = .brk → ∃ rest, bytes = 0x00 :: rest)

/-- The dispatch table holds exactly the 126 fixed entries of 30_encoding R83, the JAM entry JAM_OPCODE adds and the SLO
entry SLO_OPCODE adds: for every byte, mnemonic and mode. The byte values are the spec's choices D2 to D5. -/
def Obligations.TableIsExactlyTheOpcodeMap : Prop :=
  opcodeMap.length = 126 ∧
  ∀ (cfg : Config) (op : Byte) (m : Mnemonic) (md : Mode),
    tableEntry cfg op = some (m, md) ↔
      (m, md, op) ∈ opcodeMap ∨
      (∃ j, cfg.jamOpcode = some j ∧ op = j.byte ∧ m = .jam ∧ md = .imp) ∨
      (∃ f, cfg.sloOpcode = some f ∧ op = f.byte ∧ m = .slo ∧ md = f.mode)

/-- The parameter entries (R86, R87): a byte is JAM exactly when it is JAM_OPCODE, and then of length 1; a byte is SLO
exactly when it is SLO_OPCODE, of length 2 in ZP, ZPX, INDX and INDY and 3 in ABS, ABSX and ABSY. 0x02 is not JAM, and JAM
does not advance PC. With `none`, every candidate byte is unmapped. -/
def Obligations.ParameterBytesAreJamAndSlo : Prop :=
  ∀ (cfg : Config) (op : Byte),
    ((∃ md, tableEntry cfg op = some (.jam, md)) ↔ ∃ j, cfg.jamOpcode = some j ∧ op = j.byte) ∧
    ((∃ md, tableEntry cfg op = some (.jam, md)) → opcodeLength cfg op = some 1 ∧ op ≠ 0x02) ∧
    (∀ md, tableEntry cfg op = some (.slo, md) ↔ ∃ f, cfg.sloOpcode = some f ∧ op = f.byte ∧ md = f.mode) ∧
    (∀ md, tableEntry cfg op = some (.slo, md) → md ∈ [Mode.zp, .zpx, .indx, .indy] → opcodeLength cfg op = some 2) ∧
    (∀ md, tableEntry cfg op = some (.slo, md) → md ∈ [Mode.abs, .absx, .absy] → opcodeLength cfg op = some 3) ∧
    (cfg.jamOpcode = none → ∀ j : JamByte, lookup cfg j.byte = none) ∧
    (cfg.sloOpcode = none → ∀ f : SloForm, lookup cfg f.byte = none) ∧
    ∀ s t, exec .jam s = .next t → t.pc = s.pc

/-- The bytes of the NMOS 6502's ADC, SBC, INC, DEC and RTI are unmapped whatever the parameters (R85, decision D3). -/
def Obligations.AbsentInstructionsAreUnmapped : Prop :=
  ∀ (cfg : Config) (op : Byte),
    op ∈ ([0x61, 0x65, 0x69, 0x6D, 0x71, 0x75, 0x79, 0x7D] ++ [0xE1, 0xE5, 0xE9, 0xED, 0xF1, 0xF5, 0xF9, 0xFD] ++
      [0xE6, 0xEE, 0xF6, 0xFE] ++ [0xC6, 0xCE, 0xD6, 0xDE] ++ [0x40] : List Byte) →
    lookup cfg op = none

/-- The opcode byte alone decides the instruction's mnemonic, mode and length, whatever bytes follow it, and the length is
that of the mode (R64) but for BRK. -/
def Obligations.OpcodeByteAloneDecidesTheForm : Prop :=
  ∀ (cfg : Config) (op : Byte) (rest : List Byte) (i : Instr), decode cfg (op :: rest) = .ok i →
    tableEntry cfg op = some (i.mnemonic, i.mode) ∧ opcodeLength cfg op = some (encode cfg i).length ∧
    (encode cfg i).length = (if i = .brk then 2 else 1 + i.mode.operandBytes)

/-! Addressing -/

/-- The zero-page forms (R70 to R72): the address is the byte, or the byte plus X or Y modulo 256; one operand byte.
Only LDX and STX have ZPY. -/
def Obligations.ZeroPageFormsWrapAtEightBits : Prop :=
  ∀ (b : Byte) (s : State),
    (s.effAddr (.zp b)).toNat = b.toNat ∧ (s.effAddr (.zpx b)).toNat = (b.toNat + s.x.toNat) % 256 ∧
    (s.effAddr (.zpy b)).toNat = (b.toNat + s.y.toNat) % 256 ∧
    memLength (.zp b) = 2 ∧ memLength (.zpx b) = 2 ∧ memLength (.zpy b) = 2 ∧
    ∀ cfg op m, tableEntry cfg op = some (m, .zpy) → m = .ldx ∨ m = .stx

/-- The absolute forms (R73 to R75): the little-endian operand, or that plus X or Y modulo 65536; two operand bytes. -/
def Obligations.AbsoluteFormsWrapAtSixteenBits : Prop :=
  ∀ (lo hi : Byte) (s : State),
    (s.effAddr (.abs (hiLo hi lo))).toNat = hi.toNat * 256 + lo.toNat ∧
    (s.effAddr (.absx (hiLo hi lo))).toNat = (hi.toNat * 256 + lo.toNat + s.x.toNat) % 65536 ∧
    (s.effAddr (.absy (hiLo hi lo))).toNat = (hi.toNat * 256 + lo.toNat + s.y.toNat) % 65536 ∧
    memLength (.abs (hiLo hi lo)) = 3 ∧ memLength (.absx (hiLo hi lo)) = 3 ∧ memLength (.absy (hiLo hi lo)) = 3

/-- The pointer forms (R77, R78): both bytes of the pointer lie in the zero page, the second one byte on modulo 256, the low
byte first; INDY adds Y modulo 65536. The wrap of INDY's pointer is the spec's choice D7. -/
def Obligations.PointerFormsReadTheZeroPage : Prop :=
  ∀ (b : Byte) (s : State) (lo hi : Addr),
    (lo.toNat = (b.toNat + s.x.toNat) % 256 → hi.toNat = (b.toNat + s.x.toNat + 1) % 256 →
      (s.effAddr (.indx b)).toNat = (s.memRead hi).toNat * 256 + (s.memRead lo).toNat) ∧
    (lo.toNat = b.toNat → hi.toNat = (b.toNat + 1) % 256 →
      (s.effAddr (.indy b)).toNat = ((s.memRead hi).toNat * 256 + (s.memRead lo).toNat + s.y.toNat) % 65536) ∧
    memLength (.indx b) = 2 ∧ memLength (.indy b) = 2

/-! State -/

/-- The status byte (R29, R30): N V U B D I Z C from bit 7 to bit 0 with U = 1; decoding takes the seven flags from bits 0
to 4, 6 and 7; the two round trips. The spec marks R29's layout, the places of Z, I, D and B in it, as its own derivation,
from the order in which its source lists the flags. -/
def Obligations.StatusByteLayoutAndRoundTrips : Prop :=
  (∀ p : Flags, p.encodeP.toNat = 128 * p.n.toNat + 64 * p.v.toNat + 32 + 16 * p.b.toNat + 8 * p.d.toNat + 4 * p.i.toNat +
    2 * p.z.toNat + p.c.toNat) ∧
  (∀ w : Byte, (Flags.decodeP w).c.toNat = w.toNat % 2 ∧ (Flags.decodeP w).z.toNat = w.toNat / 2 % 2 ∧
    (Flags.decodeP w).i.toNat = w.toNat / 4 % 2 ∧ (Flags.decodeP w).d.toNat = w.toNat / 8 % 2 ∧
    (Flags.decodeP w).b.toNat = w.toNat / 16 % 2 ∧ (Flags.decodeP w).v.toNat = w.toNat / 64 % 2 ∧
    (Flags.decodeP w).n.toNat = w.toNat / 128) ∧
  (∀ p : Flags, Flags.decodeP p.encodeP = p) ∧ (∀ w : Byte, (Flags.decodeP w).encodeP = w ||| 0x20)

/-- `setZN` overwrites Z and N from the result and writes no other flag (R31). -/
def Obligations.SetZNOverwritesZAndN : Prop :=
  ∀ (p : Flags) (v : Byte), ZNFrom v (p.setZN v) ∧
    p.setZN v = { p with z := (p.setZN v).z, n := (p.setZN v).n }

/-- Reset gives every component the value of R38's table: registers, flags, status byte, every byte of memory, `jammed`, the
loop state. The spec marks the lines of the status byte and of `jammed` as its own derivations. -/
def Obligations.ResetIsTheCanonicalInitialState : Prop :=
  State.reset.pc = 0x0000 ∧ State.reset.a = 0x00 ∧ State.reset.x = 0x00 ∧ State.reset.y = 0x00 ∧ State.reset.sp = 0xFF ∧
  State.reset.flags = ⟨false, false, false, false, false, false, false⟩ ∧ State.reset.flags.unused = true ∧
  State.reset.flags.encodeP = 0x20 ∧ (∀ addr : Addr, State.reset.memRead addr = 0x00) ∧ State.reset.jammed = false ∧
  State.reset.loopState = .running

/-- The invariant of the model holds at reset. -/
def Obligations.ResetMeetsTheInvariant : Prop := State.reset.Inv

/-- From every state that meets the invariant, a step under any parameters gives a state that meets it, and so does the
core's own step, each operation of the host, and a whole run. The form is the model's choice, Log 9, and the fuel Log 8. -/
def Obligations.EveryStepKeepsMemoryCanonical : Prop :=
  ∀ (cfg : Config) (s t : State), s.Inv →
    (stepWith cfg s = .next t → t.Inv) ∧ (step s = .next t → t.Inv) ∧ (Reaches s t → t.Inv) ∧
    (∀ fuel, (runCall cfg fuel s).1.Inv) ∧ (∀ addr v, (s.writeByte addr v).Inv) ∧ (∀ addr, (s.setPC addr).Inv) ∧
    (∀ nbits w, (s.withFetchWord nbits w).Inv)

/-- Two canonical memories that read alike at every address are equal data. The canonical form is the model's choice, Log
9. -/
def Obligations.CanonicalMemoriesThatReadAlikeAreEqual : Prop :=
  ∀ s t : State, s.Inv → t.Inv → SameMemory s t → s.mem = t.mem

/-- PC after every instruction, by the class table of R26, which the spec derives from the instruction rules. -/
def Obligations.PcAfterEveryInstruction : Prop :=
  ∀ (i : Instr) (s t : State), exec i s = .next t → t.pc = pcAfter i s

/-- Only the instructions R33 lists write each flag, for every instruction; the list is the spec's derivation from the
instruction rules. -/
def Obligations.OnlyTheListedInstructionsWriteEachFlag : Prop :=
  ∀ (i : Instr) (s t : State), exec i s = .next t →
    (i.mnemonic ∉ writesC → t.flags.c = s.flags.c) ∧
    (i.mnemonic ∉ writesZN → t.flags.z = s.flags.z ∧ t.flags.n = s.flags.n) ∧
    (i.mnemonic ∉ [.sei, .cli, .brk, .plp] → t.flags.i = s.flags.i) ∧
    (i.mnemonic ∉ [.sed, .cld, .plp] → t.flags.d = s.flags.d) ∧
    (i.mnemonic ∉ [.brk, .plp] → t.flags.b = s.flags.b) ∧
    (i.mnemonic ∉ [.bit, .clv, .plp] → t.flags.v = s.flags.v)

/-- Only the instructions R21, R22, R23 and R27 list write A, X, Y and SP, for every instruction; the lists are the spec's
derivation from the instruction rules. -/
def Obligations.OnlyTheListedInstructionsWriteEachRegister : Prop :=
  ∀ (i : Instr) (s t : State), exec i s = .next t →
    (i.mnemonic ∉ writesA → t.a = s.a) ∧
    (i.mode ≠ .acc → i.mnemonic ∈ [.asl, .lsr, .rol, .ror] → t.a = s.a) ∧
    (i.mnemonic ∉ [.ldx, .tax, .tsx, .inx, .dex] → t.x = s.x) ∧
    (i.mnemonic ∉ [.ldy, .tay, .iny, .dey] → t.y = s.y) ∧
    (i.mnemonic ∉ [.txs, .pha, .php, .jsr, .pla, .plp, .rts] → t.sp = s.sp)

/-- No instruction but BIT and PLP makes V 1 where it was 0: there is no set-overflow instruction (R158, decision D21). -/
def Obligations.OnlyBitAndPlpSetOverflow : Prop :=
  ∀ (i : Instr) (s t : State), exec i s = .next t → s.flags.v = false → t.flags.v = true →
    i.mnemonic = .bit ∨ i.mnemonic = .plp

/-- I, D and B have no effect on any result: from states that agree on everything else, every instruction but PHP, the
one that reads them, ends in states that agree on everything else (R34, derived by the spec). -/
def Obligations.FlagsIDBAffectNoOtherResult : Prop :=
  ∀ (i : Instr) (s s' t : State), i ≠ .php → AgreeButIDB s s' → exec i s = .next t →
    ∃ t', exec i s' = .next t' ∧ AgreeButIDB t t'

/-- Memory changes only at the addresses an instruction stores to, computed by the functions its meaning uses; every other
byte reads as before, for every instruction (20_memory section 3, 40_execution_loop section 2). -/
def Obligations.MemoryChangesOnlyWhereAnInstructionStores : Prop :=
  ∀ (i : Instr) (s t : State), exec i s = .next t →
    ∀ addr : Addr, addr ∉ storedAddrs i s → t.memRead addr = s.memRead addr

/-- The stack page (R52): a stack address is 0x0100 + SP, in 0x0100 to 0x01FF for every SP; a byte a stack instruction
changes lies there; and the instructions that pull read no other byte: with any memory `m` that reads the same there, they
end the same, memory apart. -/
def Obligations.StackAccessesStayInPageOne : Prop :=
  (∀ sp : Byte, (stackAddr sp).toNat = 0x0100 + sp.toNat ∧ 0x0100 ≤ (stackAddr sp).toNat ∧ (stackAddr sp).toNat ≤ 0x01FF) ∧
  (∀ (i : Instr) (s t : State), i.mnemonic ∈ [.pha, .php, .jsr, .pla, .plp, .rts] → exec i s = .next t →
    ∀ addr : Addr, t.memRead addr ≠ s.memRead addr → 0x0100 ≤ addr.toNat ∧ addr.toNat ≤ 0x01FF) ∧
  ∀ (i : Instr) (s t : State) (m : Memory), i.mnemonic ∈ [.pla, .plp, .rts] → exec i s = .next t →
    (∀ addr : Addr, 0x0100 ≤ addr.toNat → addr.toNat ≤ 0x01FF → { s with mem := m }.memRead addr = s.memRead addr) →
    exec i { s with mem := m } = .next { t with mem := m }

/-! Bitwise, shift, compare -/

/-- ORA, AND and EOR in every mode (R105 to R107): bytes, result, flags, PC, and nothing else changes. -/
def Obligations.BitwiseInstructionsCombineWithA : Prop :=
  ∀ (cfg : Config) (v b lo hi : Byte) (s : State),
    (∀ f ∈ oraForms v b lo hi, Runs cfg f.bytes f.instr s
      (BitwiseEffect (fun a m => a ||| m) (s.operandValue f.operand) f.bytes.length s)) ∧
    (∀ f ∈ andForms v b lo hi, Runs cfg f.bytes f.instr s
      (BitwiseEffect (fun a m => a &&& m) (s.operandValue f.operand) f.bytes.length s)) ∧
    (∀ f ∈ eorForms v b lo hi, Runs cfg f.bytes f.instr s
      (BitwiseEffect (fun a m => a ^^^ m) (s.operandValue f.operand) f.bytes.length s))

/-- ASL and ROL in every mode (R108, R110): the value doubled modulo 256, with 0 or the old carry in bit 0; C the old bit
7. -/
def Obligations.LeftShiftsAndRotates : Prop :=
  ∀ (cfg : Config) (b lo hi : Byte) (s : State),
    ShiftsInEveryForm (fun _ => ShiftedLeft 0) 0x0A .aslAcc (aslForms b lo hi) cfg s ∧
    ShiftsInEveryForm (fun s => ShiftedLeft s.flags.c.toNat) 0x2A .rolAcc (rolForms b lo hi) cfg s

/-- LSR and ROR in every mode (R109, R111): the value halved, with 0 or the old carry in bit 7; C the old bit 0; N is 0
after LSR and the old carry after ROR. -/
def Obligations.RightShiftsAndRotates : Prop :=
  ∀ (cfg : Config) (b lo hi : Byte) (s : State),
    ShiftsInEveryForm (fun _ => ShiftedRight 0) 0x4A .lsrAcc (lsrForms b lo hi) cfg s ∧
    ShiftsInEveryForm (fun s => ShiftedRight s.flags.c.toNat) 0x6A .rorAcc (rorForms b lo hi) cfg s ∧
    (∀ i t, i = .lsrAcc ∨ i ∈ (lsrForms b lo hi).map MemForm.instr → exec i s = .next t → t.flags.n = false) ∧
    (∀ i t, i = .rorAcc ∨ i ∈ (rorForms b lo hi).map MemForm.instr → exec i s = .next t → t.flags.n = s.flags.c)

/-- CMP, CPX and CPY in every mode (R112 to R114): Z, N and C from the register and the operand; nothing is stored. -/
def Obligations.ComparesSetFlagsOnly : Prop :=
  ∀ (cfg : Config) (v b lo hi : Byte) (s : State),
    (∀ f ∈ cmpForms v b lo hi, Runs cfg f.bytes f.instr s (CompareEffect s.a (s.operandValue f.operand) f.bytes.length s)) ∧
    (∀ f ∈ cpxForms v b lo hi, Runs cfg f.bytes f.instr s (CompareEffect s.x (s.operandValue f.operand) f.bytes.length s)) ∧
    (∀ f ∈ cpyForms v b lo hi, Runs cfg f.bytes f.instr s (CompareEffect s.y (s.operandValue f.operand) f.bytes.length s))

/-- BIT in both modes (R115): Z from A and M, N and V from bits 7 and 6 of M; nothing else changes but PC. -/
def Obligations.BitTestsTheOperand : Prop :=
  ∀ (cfg : Config) (b lo hi : Byte) (s : State), ∀ f ∈ bitForms b lo hi, Runs cfg f.bytes f.instr s fun t =>
    (t.flags.z = true ↔ s.a &&& s.memRead (s.effAddr f.operand) = 0) ∧
    (t.flags.n = true ↔ 128 ≤ (s.memRead (s.effAddr f.operand)).toNat) ∧
    (t.flags.v = true ↔ 64 ≤ (s.memRead (s.effAddr f.operand)).toNat % 128) ∧
    t.flags.c = s.flags.c ∧ t.flags.i = s.flags.i ∧ t.flags.d = s.flags.d ∧ t.flags.b = s.flags.b ∧
    PcPast f.bytes.length s t ∧ SameRegisters s t ∧ t.jammed = s.jammed ∧ SameMemory s t

/-! Load, store, transfer, increment -/

/-- LDA, LDX and LDY in every mode (R116 to R118). -/
def Obligations.LoadsSetTheRegisterAndZN : Prop :=
  ∀ (cfg : Config) (v b lo hi : Byte) (s : State),
    (∀ f ∈ ldaForms v b lo hi, Runs cfg f.bytes f.instr s (SetsA (s.operandValue f.operand) f.bytes.length s)) ∧
    (∀ f ∈ ldxForms v b lo hi, Runs cfg f.bytes f.instr s (SetsX (s.operandValue f.operand) f.bytes.length s)) ∧
    (∀ f ∈ ldyForms v b lo hi, Runs cfg f.bytes f.instr s (SetsY (s.operandValue f.operand) f.bytes.length s))

/-- STA, STX and STY in every mode (R119 to R121), on canonical memory: the register at the effective address, every other
byte as before, no flag. -/
def Obligations.StoresWriteOneByte : Prop :=
  ∀ (cfg : Config) (b lo hi : Byte) (s : State), s.Inv →
    (∀ f ∈ staForms b lo hi, Runs cfg f.bytes f.instr s (StoreEffect s.a (s.effAddr f.operand) f.bytes.length s)) ∧
    (∀ f ∈ stxForms b lo hi, Runs cfg f.bytes f.instr s (StoreEffect s.x (s.effAddr f.operand) f.bytes.length s)) ∧
    (∀ f ∈ styForms b lo hi, Runs cfg f.bytes f.instr s (StoreEffect s.y (s.effAddr f.operand) f.bytes.length s))

/-- TAX, TAY, TXA, TYA, TSX and TXS (R122 to R127): every transfer but TXS sets Z and N (decision D19). -/
def Obligations.TransfersCopyRegisters : Prop :=
  ∀ (cfg : Config) (s : State),
    Runs cfg [0xAA] .tax s (SetsX s.a 1 s) ∧ Runs cfg [0xA8] .tay s (SetsY s.a 1 s) ∧
    Runs cfg [0x8A] .txa s (SetsA s.x 1 s) ∧ Runs cfg [0x98] .tya s (SetsA s.y 1 s) ∧
    Runs cfg [0xBA] .tsx s (SetsX s.sp 1 s) ∧
    Runs cfg [0x9A] .txs s fun t => t.sp = s.x ∧ t.flags = s.flags ∧ PcPast 1 s t ∧ t.a = s.a ∧ t.x = s.x ∧ t.y = s.y ∧
      t.jammed = s.jammed ∧ SameMemory s t

/-- INX, INY, DEX and DEY (R128 to R131): one more or one less modulo 256, Z and N from it. -/
def Obligations.IncrementsAndDecrementsWrap : Prop :=
  ∀ (cfg : Config) (s : State),
    (Runs cfg [0xE8] .inx s fun t => t.x.toNat = (s.x.toNat + 1) % 256 ∧ SetsX t.x 1 s t) ∧
    (Runs cfg [0xC8] .iny s fun t => t.y.toNat = (s.y.toNat + 1) % 256 ∧ SetsY t.y 1 s t) ∧
    (Runs cfg [0xCA] .dex s fun t => t.x.toNat = (s.x.toNat + 255) % 256 ∧ SetsX t.x 1 s t) ∧
    (Runs cfg [0x88] .dey s fun t => t.y.toNat = (s.y.toNat + 255) % 256 ∧ SetsY t.y 1 s t)

/-! Stack -/

/-- PHA and PHP (R133, R135), on canonical memory: the byte pushed is A, or the status byte with the live B (decision
D9). -/
def Obligations.PushesStoreAndDecrement : Prop :=
  ∀ (cfg : Config) (s : State), s.Inv →
    (Runs cfg [0x48] .pha s fun t => Pushed s.a s t ∧ t.flags = s.flags ∧ PcPast 1 s t ∧ t.a = s.a ∧ t.x = s.x ∧
      t.y = s.y ∧ t.jammed = s.jammed) ∧
    (Runs cfg [0x08] .php s fun t => Pushed s.flags.encodeP s t ∧ t.flags = s.flags ∧ PcPast 1 s t ∧ t.a = s.a ∧ t.x = s.x ∧
      t.y = s.y ∧ t.jammed = s.jammed)

/-- PLA and PLP (R134, R136): SP up by 1 modulo 256, the byte at 0x0100 plus the new SP; PLA sets Z and N, PLP all seven
stored flags (decision D9). The stack byte stays. -/
def Obligations.PullsIncrementAndLoad : Prop :=
  ∀ (cfg : Config) (s : State),
    (Runs cfg [0x68] .pla s fun t => t.sp.toNat = (s.sp.toNat + 1) % 256 ∧ t.a = s.memRead (stackAddr t.sp) ∧
      OnlyZN t.a s t ∧ PcPast 1 s t ∧ t.x = s.x ∧ t.y = s.y ∧ t.jammed = s.jammed ∧ SameMemory s t) ∧
    (Runs cfg [0x28] .plp s fun t => t.sp.toNat = (s.sp.toNat + 1) % 256 ∧
      t.flags = Flags.decodeP (s.memRead (stackAddr t.sp)) ∧ PcPast 1 s t ∧ t.a = s.a ∧ t.x = s.x ∧ t.y = s.y ∧
      t.jammed = s.jammed ∧ SameMemory s t)

/-- The stack primitives (R132), on canonical memory: a push writes at 0x0100 + SP and then decrements SP, a pull increments
SP and then reads, both modulo 256; a push and then a pull gives the byte back and restores SP, for every SP. -/
def Obligations.PushThenPullGivesTheByteBack : Prop :=
  ∀ (s : State) (v : Byte), s.Inv →
    Pushed v s (s.push v) ∧ (∀ addr : Addr, addr.toNat = 0x0100 + s.sp.toNat → (s.push v).memRead addr = v) ∧
    s.afterPull.sp.toNat = (s.sp.toNat + 1) % 256 ∧
    (∀ addr : Addr, addr.toNat = 0x0100 + (s.sp.toNat + 1) % 256 → s.pulled = s.memRead addr) ∧
    (s.push v).pulled = v ∧ (s.push v).afterPull.sp = s.sp

/-! Control flow -/

/-- The eight branches (R137 to R146): taken, PC is PC0 + 2 plus the signed offset modulo 65536; not taken, PC0 + 2
(conflict C1). Nothing else changes. -/
def Obligations.BranchesAddTheSignedOffset : Prop :=
  ∀ (cfg : Config) (off : Byte) (s : State), ∀ f ∈ branches off s.flags, Runs cfg [f.1, off] f.2.1 s fun t =>
    (f.2.2 = true → (t.pc.toNat : Int) = ((s.pc.toNat : Int) + 2 + offset off) % 65536) ∧
    (f.2.2 = false → PcPast 2 s t) ∧ t.flags = s.flags ∧ SameRegisters s t ∧ t.jammed = s.jammed ∧ SameMemory s t

/-- JMP absolute (R147): PC is the little-endian operand; nothing else changes. -/
def Obligations.JmpAbsoluteGoesToTheOperand : Prop :=
  ∀ (cfg : Config) (lo hi : Byte) (s : State), Runs cfg [0x4C, lo, hi] (.jmpAbs (hiLo hi lo)) s fun t =>
    t.pc.toNat = hi.toNat * 256 + lo.toNat ∧ t.flags = s.flags ∧ SameRegisters s t ∧ t.jammed = s.jammed ∧ SameMemory s t

/-- JMP indirect (R148, R76), for both values of JMP_IND_PAGE_WRAP (decision D6): PC is the 16-bit value at the pointer, its
high byte read where R76's formula says; `exec` is the meaning under the core's own parameters. Only JMP has the mode. -/
def Obligations.JmpIndirectGoesThroughThePointer : Prop :=
  ∀ (cfg : Config) (lo hi : Byte) (s : State),
    decode cfg [0x6C, lo, hi] = .ok (.jmpInd (hiLo hi lo)) ∧
    (∃ t, execWith cfg (.jmpInd (hiLo hi lo)) s = .next t ∧ GoesThrough cfg.jmpIndPageWrap (hiLo hi lo) s t) ∧
    (∃ t, exec (.jmpInd (hiLo hi lo)) s = .next t ∧ GoesThrough coreConfig.jmpIndPageWrap (hiLo hi lo) s t) ∧
    ∀ op m, tableEntry cfg op = some (m, .ind) → m = .jmp

/-- JSR (R149), on canonical memory: the address of its last byte pushed, high byte first, and PC the operand. -/
def Obligations.JsrPushesTheReturnAddress : Prop :=
  ∀ (cfg : Config) (lo hi : Byte) (s : State), s.Inv → Runs cfg [0x20, lo, hi] (.jsr (hiLo hi lo)) s fun t =>
    t.pc.toNat = hi.toNat * 256 + lo.toNat ∧
    (t.memRead (stackAddr s.sp)).toNat * 256 + (t.memRead (stackAddr (s.sp - 1))).toNat = (s.pc.toNat + 2) % 65536 ∧
    t.sp.toNat = (s.sp.toNat + 254) % 256 ∧
    (∀ addr : Addr, addr ≠ stackAddr s.sp → addr ≠ stackAddr (s.sp - 1) → t.memRead addr = s.memRead addr) ∧
    t.flags = s.flags ∧ t.a = s.a ∧ t.x = s.x ∧ t.y = s.y ∧ t.jammed = s.jammed

/-- RTS (R150): PC is the pulled 16-bit value plus 1 modulo 65536, the low byte pulled first. After a JSR from canonical
memory, an RTS in any state whose SP and two stack bytes are as JSR left them resumes at PC0 + 3 and restores SP. -/
def Obligations.RtsResumesAfterJsr : Prop :=
  (∀ (cfg : Config) (s : State), Runs cfg [0x60] .rts s fun t =>
    t.pc.toNat = ((s.memRead (stackAddr (s.sp + 2))).toNat * 256 + (s.memRead (stackAddr (s.sp + 1))).toNat + 1) % 65536 ∧
    t.sp.toNat = (s.sp.toNat + 2) % 256 ∧ t.flags = s.flags ∧ t.a = s.a ∧ t.x = s.x ∧ t.y = s.y ∧ t.jammed = s.jammed ∧
    SameMemory s t) ∧
  ∀ (s : State) (target : Addr), s.Inv → ∃ t, exec (.jsr target) s = .next t ∧
    ∀ u : State, u.sp = t.sp → u.memRead (stackAddr s.sp) = t.memRead (stackAddr s.sp) →
      u.memRead (stackAddr (s.sp - 1)) = t.memRead (stackAddr (s.sp - 1)) →
      ∃ w, exec .rts u = .next w ∧ PcPast 3 s w ∧ w.sp = s.sp

/-! Flags, break, no-op, illegal opcodes -/

/-- CLC, SEC, CLI, SEI, CLD, SED and CLV (R151 to R157): the named flag forced, nothing else, PC + 1. -/
def Obligations.FlagInstructionsForceOneFlag : Prop :=
  ∀ (cfg : Config) (s : State), ∀ f ∈ flagInstrs s.flags, Runs cfg [f.1] f.2.1 s fun t =>
    t.flags = f.2.2 ∧ PcPast 1 s t ∧ SameRegisters s t ∧ t.jammed = s.jammed ∧ SameMemory s t

/-- BRK (R159, R168): B and I set and PC + 2, whatever the padding byte; nothing pushed, no vector read, SP and memory
unchanged (decisions D8 and D16). -/
def Obligations.BrkSetsBAndIAndSkipsTwoBytes : Prop :=
  ∀ (cfg : Config) (pad : Byte) (s : State), Runs cfg [0x00, pad] .brk s fun t =>
    t.flags = { s.flags with b := true, i := true } ∧ PcPast 2 s t ∧ SameRegisters s t ∧ t.jammed = s.jammed ∧
    SameMemory s t

/-- NOP (R160): PC + 1 and nothing else. It is the only NOP: no other byte has that mnemonic, whatever the parameters. -/
def Obligations.NopOnlyAdvancesPc : Prop :=
  ∀ (cfg : Config) (s : State), Runs cfg [0xEA] .nop s fun t =>
    PcPast 1 s t ∧ t.flags = s.flags ∧ SameRegisters s t ∧ t.jammed = s.jammed ∧ SameMemory s t ∧
    ∀ op md, tableEntry cfg op = some (.nop, md) → op = 0xEA

/-- JAM (R161): its byte is JAM_OPCODE (decision D4); the core is jammed, and PC and everything else stay. The step that runs
it succeeds, every step after it changes nothing, and `run()` answers Jammed. The fuel is the model's, Log 8. -/
def Obligations.JamHaltsWithoutAdvancing : Prop :=
  ∀ (cfg : Config) (s : State),
    (∀ j, cfg.jamOpcode = some j → decode cfg [j.byte] = .ok .jam ∧ j.byte ≠ 0x02) ∧
    ∃ t, exec .jam s = .next t ∧ t.jammed = true ∧ t.pc = s.pc ∧ t.flags = s.flags ∧ SameRegisters s t ∧ SameMemory s t ∧
      (s.jammed = false → s.fetch cfg = some .jam →
        stepCall cfg s = (t, .ok) ∧ stepCall cfg t = (t, .ok) ∧ ∀ fuel, runCall cfg (fuel + 1) s = (t, .jammed))

/-- SLO (R162) in each of its seven forms, when SLO_OPCODE selects it (decision D5), on canonical memory: the byte doubled
modulo 256 and written back, C its old bit 7, the result ORed into A, Z and N from the final A. -/
def Obligations.SloShiftsMemoryThenOrsIntoA : Prop :=
  ∀ (cfg : Config) (b lo hi : Byte) (s : State), s.Inv → ∀ f ∈ sloEncodings b lo hi,
    (cfg.sloOpcode = some f.2.form → decode cfg f.1 = .ok (.slo f.2)) ∧
    ∃ t, exec (.slo f.2) s = .next t ∧
      ShiftedLeft 0 (s.memRead (s.effAddr f.2.toMem)) (t.memRead (s.effAddr f.2.toMem)) t.flags.c ∧
      t.a = s.a ||| t.memRead (s.effAddr f.2.toMem) ∧ ZNFrom t.a t.flags ∧ SameIDBV s t ∧ PcPast f.1.length s t ∧
      t.x = s.x ∧ t.y = s.y ∧ t.sp = s.sp ∧ t.jammed = s.jammed ∧ SameMemoryBut (s.effAddr f.2.toMem) s t

/-! The step, the run and the host -/

/-- A step runs the decoded instruction: when the bytes at PC decode to `i` and the core is not jammed, the core's step is
exec of `i` on the same state, PC included, and a step under any parameters is the meaning under them. -/
def Obligations.StepRunsTheDecodedInstruction : Prop :=
  ∀ (s : State) (bytes : List Byte) (i : Instr), s.jammed = false → BytesAt s bytes →
    (decode coreConfig bytes = .ok i → step s = exec i s) ∧
    ∀ cfg : Config, decode cfg bytes = .ok i → s.fetch cfg = some i ∧ stepWith cfg s = execWith cfg i s

/-- The word the host places is the word the next step runs. How a program is loaded is Log 7. -/
def Obligations.PlacedWordIsTheNextInstruction : Prop :=
  ∀ (s : State) (nbits w : Nat) (i : Instr), s.Inv → decodeTableWord nbits w = some i →
    step (s.withFetchWord nbits w) = exec i (s.withFetchWord nbits w)

/-- All or nothing (R99): every instruction completes from every state under any parameters, and the only way a step of a
core that is not jammed fails is an unmapped opcode, with the state unchanged. -/
def Obligations.EveryHandlerCompletes : Prop :=
  (∀ (cfg : Config) (i : Instr) (s : State), (∃ t, execWith cfg i s = .next t) ∧ ∃ t, exec i s = .next t) ∧
  ∀ (cfg : Config) (s : State), s.jammed = false →
    (∃ t, stepWith cfg s = .next t) ∨
    (lookup cfg (s.memRead s.pc) = none ∧ stepCall cfg s = (s, .unknownOpcode (s.memRead s.pc)))

/-- The step algorithm (R97, R163) as the host sees it: jammed, Ok with no change; unmapped, UnknownOpcode of the byte with
no change; mapped, the handler's state and Ok. There is no fourth case. -/
def Obligations.StepCallFollowsTheAlgorithm : Prop :=
  ∀ (cfg : Config) (s : State),
    (s.jammed = true → stepCall cfg s = (s, .ok)) ∧
    (s.jammed = false → lookup cfg (s.memRead s.pc) = none → stepCall cfg s = (s, .unknownOpcode (s.memRead s.pc))) ∧
    (s.jammed = false → ∀ r, lookup cfg (s.memRead s.pc) = some r →
      ∃ i t, s.fetch cfg = some i ∧ (i.mnemonic, i.mode) = (r.mnemonic, r.mode) ∧ execWith cfg i s = .next t ∧
        stepCall cfg s = (t, .ok))

/-- An unmapped opcode (R84, R164): 0x02 is unmapped and there are 130 unmapped bytes without the parameters' entries;
fetching one faults with the opcode byte, the state unchanged, and again at the next call. -/
def Obligations.UnmappedOpcodeFaultsAndChangesNothing : Prop :=
  (∀ cfg : Config, lookup cfg 0x02 = none) ∧
  ((List.range 256).filter fun n => (lookup ⟨none, none, false⟩ (BitVec.ofNat 8 n)).isNone).length = 130 ∧
  ∀ (cfg : Config) (s : State), s.jammed = false → lookup cfg (s.memRead s.pc) = none →
    stepWith cfg s = .fault (.unknownOpcode (s.memRead s.pc)) ∧ (stepCall cfg s).1 = s ∧
    stepCall cfg (stepCall cfg s).1 = (s, .unknownOpcode (s.memRead s.pc))

/-- A jammed core takes no step whatever byte is at PC: the step is terminal (the model's form of R102, Log 3), `step()`
answers Ok with no change, and `run()` answers Jammed at once. No host operation but reset leaves the state.
The fuel is the model's, Log 8. -/
def Obligations.JammedCoreTakesNoStep : Prop :=
  ∀ (cfg : Config) (s : State), s.jammed = true →
    stepWith cfg s = .fault .jammed ∧ step s = .fault .jammed ∧ stepCall cfg s = (s, .ok) ∧
    (∀ fuel, runCall cfg fuel s = (s, .jammed)) ∧ (∀ addr v, (s.writeByte addr v).jammed = true) ∧
    (∀ addr, (s.setPC addr).jammed = true) ∧ State.reset.jammed = false

/-- `jammed` is set only by JAM and, once true, stays true through every handler, step, run and host operation but reset,
which clears it (R36, R180). The fuel is the model's, Log 8. -/
def Obligations.JammedIsMonotoneUntilReset : Prop :=
  (∀ (i : Instr) (s t : State), exec i s = .next t → (t.jammed = true ↔ s.jammed = true ∨ i = .jam)) ∧
  (∀ (cfg : Config) (s : State), s.jammed = true →
    (stepCall cfg s).1.jammed = true ∧ (∀ fuel, (runCall cfg fuel s).1.jammed = true) ∧
    (∀ addr v, (s.writeByte addr v).jammed = true) ∧ ∀ addr, (s.setPC addr).jammed = true) ∧
  State.reset.jammed = false ∧ State.reset.loopState = .running

/-- The run loop (R100): Jammed at once on a jammed core; otherwise a step, and UnknownOpcode returned or the loop again.
The fuel is the model's, Log 8. -/
def Obligations.RunLoopStepsUntilJammedOrFault : Prop :=
  ∀ (cfg : Config) (s t : State) (fuel : Nat),
    (s.jammed = true → runCall cfg fuel s = (s, .jammed)) ∧
    (s.jammed = false → stepCall cfg s = (t, .ok) → runCall cfg (fuel + 1) s = runCall cfg fuel t) ∧
    (s.jammed = false → ∀ op, stepCall cfg s = (t, .unknownOpcode op) → runCall cfg (fuel + 1) s = (t, .unknownOpcode op))

/-- BRK does not stop the run (R101): it goes on at PC0 + 2, not jammed, with B = 1 for the host to see. The fuel is
the model's, Log 8. -/
def Obligations.BrkDoesNotStopTheRun : Prop :=
  ∀ (cfg : Config) (s : State), s.jammed = false → s.fetch cfg = some .brk →
    ∃ t, stepCall cfg s = (t, .ok) ∧ PcPast 2 s t ∧ t.flags.b = true ∧ t.jammed = false ∧
      ∀ fuel, runCall cfg (fuel + 1) s = runCall cfg fuel t

/-- How a run ends (70_reset_and_hazards section 5), from a core that is not jammed: with Jammed, the final state is jammed
with PC at the JAM byte; with UnknownOpcode, the byte at the final PC is unmapped and is the one reported. With neither, the
fuel ran out, and the core is still running: the fuel, and the clause on its running out, are the model's choice, Log 8. -/
def Obligations.RunEndsAtAJamOrAnUnmappedByte : Prop :=
  ∀ (cfg : Config) (fuel : Nat) (s t : State) (r : RunResult), s.jammed = false → runCall cfg fuel s = (t, r) →
    (r = .jammed → t.jammed = true ∧ t.fetch cfg = some .jam) ∧
    (∀ op, r = .unknownOpcode op → t.jammed = false ∧ t.memRead t.pc = op ∧ lookup cfg op = none) ∧
    (r = .noResultYet → t.jammed = false)

/-- More fuel changes no ending: fuel that runs out is no result, not an ending (decision D18, Log 8). -/
def Obligations.MoreFuelKeepsTheEnding : Prop :=
  ∀ (cfg : Config) (fuel more : Nat) (s t : State) (r : RunResult),
    runCall cfg fuel s = (t, r) → r ≠ .noResultYet → runCall cfg (fuel + more) s = (t, r)

/-- A store is seen by the next fetch (20_memory section 5): after a byte is written at PC, on canonical memory, the
instruction fetched there is the one the new byte begins, the bytes after it as they were. -/
def Obligations.StoredOpcodeIsTheOneFetched : Prop :=
  ∀ (cfg : Config) (s : State) (v : Byte), s.Inv →
    (s.memWrite s.pc v).fetch cfg = decodeBytes cfg v (s.memRead (s.pc + 1)) (s.memRead (s.pc + 2)) ∧
    ∀ t, exec (.staAbs s.pc) { s with pc := s.pc - 3, a := v } = .next t →
      t.fetch cfg = decodeBytes cfg v (s.memRead (s.pc + 1)) (s.memRead (s.pc + 2))

/-- The host's two setters (R95, R103), on canonical memory: `writeByte` changes one byte, `setPC` changes PC, and each
leaves everything else alone. A read returns the most recent write and changes nothing (R43). -/
def Obligations.HostSettersChangeOneThing : Prop :=
  ∀ (s : State) (addr : Addr) (v : Byte), s.Inv →
    (s.writeByte addr v).memRead addr = v ∧ SameMemoryBut addr s (s.writeByte addr v) ∧
    s.writeByte addr v = { s with mem := (s.writeByte addr v).mem } ∧
    (s.setPC addr).pc = addr ∧ s.setPC addr = { s with pc := addr }
end

