-- ==== Sys2Proof/Laws/State.lean ====
section
/-! SUPPORT. One lemma per field per update, so that no later proof unfolds a record update. -/

namespace Sys2Proof.Machine

/-! memWrite -/

@[simp] theorem State.memWrite_pc (s : State) (addr : Addr) (v : Byte) : (s.memWrite addr v).pc = s.pc := rfl
@[simp] theorem State.memWrite_a (s : State) (addr : Addr) (v : Byte) : (s.memWrite addr v).a = s.a := rfl
@[simp] theorem State.memWrite_x (s : State) (addr : Addr) (v : Byte) : (s.memWrite addr v).x = s.x := rfl
@[simp] theorem State.memWrite_y (s : State) (addr : Addr) (v : Byte) : (s.memWrite addr v).y = s.y := rfl
@[simp] theorem State.memWrite_sp (s : State) (addr : Addr) (v : Byte) : (s.memWrite addr v).sp = s.sp := rfl
@[simp] theorem State.memWrite_flags (s : State) (addr : Addr) (v : Byte) : (s.memWrite addr v).flags = s.flags := rfl
@[simp] theorem State.memWrite_mem (s : State) (addr : Addr) (v : Byte) : (s.memWrite addr v).mem = Memory.write s.mem addr.toNat v := rfl
@[simp] theorem State.memWrite_jammed (s : State) (addr : Addr) (v : Byte) : (s.memWrite addr v).jammed = s.jammed := rfl

/-! advance -/

@[simp] theorem State.advance_pc (s : State) (n : Nat) : (s.advance n).pc = s.pc + BitVec.ofNat 16 n := rfl
@[simp] theorem State.advance_a (s : State) (n : Nat) : (s.advance n).a = s.a := rfl
@[simp] theorem State.advance_x (s : State) (n : Nat) : (s.advance n).x = s.x := rfl
@[simp] theorem State.advance_y (s : State) (n : Nat) : (s.advance n).y = s.y := rfl
@[simp] theorem State.advance_sp (s : State) (n : Nat) : (s.advance n).sp = s.sp := rfl
@[simp] theorem State.advance_flags (s : State) (n : Nat) : (s.advance n).flags = s.flags := rfl
@[simp] theorem State.advance_mem (s : State) (n : Nat) : (s.advance n).mem = s.mem := rfl
@[simp] theorem State.advance_jammed (s : State) (n : Nat) : (s.advance n).jammed = s.jammed := rfl

/-! jump -/

@[simp] theorem State.jump_pc (s : State) (target : Addr) : (s.jump target).pc = target := rfl
@[simp] theorem State.jump_a (s : State) (target : Addr) : (s.jump target).a = s.a := rfl
@[simp] theorem State.jump_x (s : State) (target : Addr) : (s.jump target).x = s.x := rfl
@[simp] theorem State.jump_y (s : State) (target : Addr) : (s.jump target).y = s.y := rfl
@[simp] theorem State.jump_sp (s : State) (target : Addr) : (s.jump target).sp = s.sp := rfl
@[simp] theorem State.jump_flags (s : State) (target : Addr) : (s.jump target).flags = s.flags := rfl
@[simp] theorem State.jump_mem (s : State) (target : Addr) : (s.jump target).mem = s.mem := rfl
@[simp] theorem State.jump_jammed (s : State) (target : Addr) : (s.jump target).jammed = s.jammed := rfl

/-! push -/

@[simp] theorem State.push_pc (s : State) (v : Byte) : (s.push v).pc = s.pc := rfl
@[simp] theorem State.push_a (s : State) (v : Byte) : (s.push v).a = s.a := rfl
@[simp] theorem State.push_x (s : State) (v : Byte) : (s.push v).x = s.x := rfl
@[simp] theorem State.push_y (s : State) (v : Byte) : (s.push v).y = s.y := rfl
@[simp] theorem State.push_sp (s : State) (v : Byte) : (s.push v).sp = s.sp - 1 := rfl
@[simp] theorem State.push_flags (s : State) (v : Byte) : (s.push v).flags = s.flags := rfl
@[simp] theorem State.push_mem (s : State) (v : Byte) : (s.push v).mem = Memory.write s.mem (stackAddr s.sp).toNat v := rfl
@[simp] theorem State.push_jammed (s : State) (v : Byte) : (s.push v).jammed = s.jammed := rfl

/-! afterPull -/

@[simp] theorem State.afterPull_pc (s : State) : (s.afterPull).pc = s.pc := rfl
@[simp] theorem State.afterPull_a (s : State) : (s.afterPull).a = s.a := rfl
@[simp] theorem State.afterPull_x (s : State) : (s.afterPull).x = s.x := rfl
@[simp] theorem State.afterPull_y (s : State) : (s.afterPull).y = s.y := rfl
@[simp] theorem State.afterPull_sp (s : State) : (s.afterPull).sp = s.sp + 1 := rfl
@[simp] theorem State.afterPull_flags (s : State) : (s.afterPull).flags = s.flags := rfl
@[simp] theorem State.afterPull_mem (s : State) : (s.afterPull).mem = s.mem := rfl
@[simp] theorem State.afterPull_jammed (s : State) : (s.afterPull).jammed = s.jammed := rfl

/-! setA -/

@[simp] theorem State.setA_pc (s : State) (v : Byte) : (s.setA v).pc = s.pc := rfl
@[simp] theorem State.setA_a (s : State) (v : Byte) : (s.setA v).a = v := rfl
@[simp] theorem State.setA_x (s : State) (v : Byte) : (s.setA v).x = s.x := rfl
@[simp] theorem State.setA_y (s : State) (v : Byte) : (s.setA v).y = s.y := rfl
@[simp] theorem State.setA_sp (s : State) (v : Byte) : (s.setA v).sp = s.sp := rfl
@[simp] theorem State.setA_flags (s : State) (v : Byte) : (s.setA v).flags = s.flags.setZN v := rfl
@[simp] theorem State.setA_mem (s : State) (v : Byte) : (s.setA v).mem = s.mem := rfl
@[simp] theorem State.setA_jammed (s : State) (v : Byte) : (s.setA v).jammed = s.jammed := rfl

/-! setX -/

@[simp] theorem State.setX_pc (s : State) (v : Byte) : (s.setX v).pc = s.pc := rfl
@[simp] theorem State.setX_a (s : State) (v : Byte) : (s.setX v).a = s.a := rfl
@[simp] theorem State.setX_x (s : State) (v : Byte) : (s.setX v).x = v := rfl
@[simp] theorem State.setX_y (s : State) (v : Byte) : (s.setX v).y = s.y := rfl
@[simp] theorem State.setX_sp (s : State) (v : Byte) : (s.setX v).sp = s.sp := rfl
@[simp] theorem State.setX_flags (s : State) (v : Byte) : (s.setX v).flags = s.flags.setZN v := rfl
@[simp] theorem State.setX_mem (s : State) (v : Byte) : (s.setX v).mem = s.mem := rfl
@[simp] theorem State.setX_jammed (s : State) (v : Byte) : (s.setX v).jammed = s.jammed := rfl

/-! setY -/

@[simp] theorem State.setY_pc (s : State) (v : Byte) : (s.setY v).pc = s.pc := rfl
@[simp] theorem State.setY_a (s : State) (v : Byte) : (s.setY v).a = s.a := rfl
@[simp] theorem State.setY_x (s : State) (v : Byte) : (s.setY v).x = s.x := rfl
@[simp] theorem State.setY_y (s : State) (v : Byte) : (s.setY v).y = v := rfl
@[simp] theorem State.setY_sp (s : State) (v : Byte) : (s.setY v).sp = s.sp := rfl
@[simp] theorem State.setY_flags (s : State) (v : Byte) : (s.setY v).flags = s.flags.setZN v := rfl
@[simp] theorem State.setY_mem (s : State) (v : Byte) : (s.setY v).mem = s.mem := rfl
@[simp] theorem State.setY_jammed (s : State) (v : Byte) : (s.setY v).jammed = s.jammed := rfl

/-! setZN -/

@[simp] theorem Flags.setZN_c (p : Flags) (w : Byte) : (p.setZN w).c = p.c := rfl
@[simp] theorem Flags.setZN_z (p : Flags) (w : Byte) : (p.setZN w).z = (w == 0) := rfl
@[simp] theorem Flags.setZN_i (p : Flags) (w : Byte) : (p.setZN w).i = p.i := rfl
@[simp] theorem Flags.setZN_d (p : Flags) (w : Byte) : (p.setZN w).d = p.d := rfl
@[simp] theorem Flags.setZN_b (p : Flags) (w : Byte) : (p.setZN w).b = p.b := rfl
@[simp] theorem Flags.setZN_v (p : Flags) (w : Byte) : (p.setZN w).v = p.v := rfl
@[simp] theorem Flags.setZN_n (p : Flags) (w : Byte) : (p.setZN w).n = bit w 7 := rfl

/-! compare -/

@[simp] theorem Flags.compare_c (p : Flags) (r m : Byte) : (p.compare r m).c = decide (m.toNat ≤ r.toNat) := rfl
@[simp] theorem Flags.compare_z (p : Flags) (r m : Byte) : (p.compare r m).z = (r - m == 0) := rfl
@[simp] theorem Flags.compare_i (p : Flags) (r m : Byte) : (p.compare r m).i = p.i := rfl
@[simp] theorem Flags.compare_d (p : Flags) (r m : Byte) : (p.compare r m).d = p.d := rfl
@[simp] theorem Flags.compare_b (p : Flags) (r m : Byte) : (p.compare r m).b = p.b := rfl
@[simp] theorem Flags.compare_v (p : Flags) (r m : Byte) : (p.compare r m).v = p.v := rfl
@[simp] theorem Flags.compare_n (p : Flags) (r m : Byte) : (p.compare r m).n = bit (r - m) 7 := rfl

/-! bitTest -/

@[simp] theorem Flags.bitTest_c (p : Flags) (a m : Byte) : (p.bitTest a m).c = p.c := rfl
@[simp] theorem Flags.bitTest_z (p : Flags) (a m : Byte) : (p.bitTest a m).z = (a &&& m == 0) := rfl
@[simp] theorem Flags.bitTest_i (p : Flags) (a m : Byte) : (p.bitTest a m).i = p.i := rfl
@[simp] theorem Flags.bitTest_d (p : Flags) (a m : Byte) : (p.bitTest a m).d = p.d := rfl
@[simp] theorem Flags.bitTest_b (p : Flags) (a m : Byte) : (p.bitTest a m).b = p.b := rfl
@[simp] theorem Flags.bitTest_v (p : Flags) (a m : Byte) : (p.bitTest a m).v = bit m 6 := rfl
@[simp] theorem Flags.bitTest_n (p : Flags) (a m : Byte) : (p.bitTest a m).n = bit m 7 := rfl

/-! shifted -/

@[simp] theorem Flags.shifted_c (p : Flags) (r : Shifted) : (p.shifted r).c = r.carry := rfl
@[simp] theorem Flags.shifted_z (p : Flags) (r : Shifted) : (p.shifted r).z = (r.result == 0) := rfl
@[simp] theorem Flags.shifted_i (p : Flags) (r : Shifted) : (p.shifted r).i = p.i := rfl
@[simp] theorem Flags.shifted_d (p : Flags) (r : Shifted) : (p.shifted r).d = p.d := rfl
@[simp] theorem Flags.shifted_b (p : Flags) (r : Shifted) : (p.shifted r).b = p.b := rfl
@[simp] theorem Flags.shifted_v (p : Flags) (r : Shifted) : (p.shifted r).v = p.v := rfl
@[simp] theorem Flags.shifted_n (p : Flags) (r : Shifted) : (p.shifted r).n = bit r.result 7 := rfl

/-! decodeP -/

@[simp] theorem Flags.decodeP_c (w : Byte) : (Flags.decodeP w).c = bit w 0 := rfl
@[simp] theorem Flags.decodeP_z (w : Byte) : (Flags.decodeP w).z = bit w 1 := rfl
@[simp] theorem Flags.decodeP_i (w : Byte) : (Flags.decodeP w).i = bit w 2 := rfl
@[simp] theorem Flags.decodeP_d (w : Byte) : (Flags.decodeP w).d = bit w 3 := rfl
@[simp] theorem Flags.decodeP_b (w : Byte) : (Flags.decodeP w).b = bit w 4 := rfl
@[simp] theorem Flags.decodeP_v (w : Byte) : (Flags.decodeP w).v = bit w 6 := rfl
@[simp] theorem Flags.decodeP_n (w : Byte) : (Flags.decodeP w).n = bit w 7 := rfl

/-! The host's setters are the core's own operations -/

@[simp] theorem State.writeByte_eq (s : State) (addr : Addr) (v : Byte) : s.writeByte addr v = s.memWrite addr v := rfl
@[simp] theorem State.setPC_eq (s : State) (addr : Addr) : s.setPC addr = s.jump addr := rfl

end Sys2Proof.Machine
end

