-- ==== Sys2Proof/Laws/Memory.lean ====
section
/-! SUPPORT. Memory: a read after a write, and that every operation keeps the canonical form. -/

namespace Sys2Proof.Machine

@[simp] theorem Memory.read_nil (a : Nat) : Memory.read [] a = Memory.unlisted := rfl

theorem Memory.read_cons (k : Nat) (u : Byte) (rest : Memory) (a : Nat) :
    Memory.read ((k, u) :: rest) a = if a = k then u else Memory.read rest a := rfl

theorem Memory.wfFrom_cons (lo k : Nat) (u : Byte) (rest : Memory) :
    Memory.wfFrom lo ((k, u) :: rest) = true ↔
      lo ≤ k ∧ k < 65536 ∧ u ≠ Memory.unlisted ∧ Memory.wfFrom (k + 1) rest = true := by
  simp [Memory.wfFrom, and_assoc]

theorem Memory.wfFrom_mono {m : Memory} {lo lo' : Nat} (hle : lo' ≤ lo) (h : Memory.wfFrom lo m = true) :
    Memory.wfFrom lo' m = true := by
  cases m with
  | nil => rfl
  | cons c rest =>
    obtain ⟨k, u⟩ := c
    rw [Memory.wfFrom_cons] at h ⊢
    exact ⟨by omega, h.2⟩

/-- Below the first listed address every byte reads as unlisted. -/
theorem Memory.read_below {m : Memory} {lo a : Nat} (h : Memory.wfFrom lo m = true) (ha : a < lo) :
    Memory.read m a = Memory.unlisted := by
  induction m generalizing lo with
  | nil => rfl
  | cons c rest ih =>
    obtain ⟨k, u⟩ := c
    rw [Memory.wfFrom_cons] at h
    rw [Memory.read_cons, if_neg (by omega), ih h.2.2.2 (by omega)]

/-- A read of the cell put in front. -/
theorem Memory.read_cons_same (a : Nat) (v : Byte) {rest : Memory} (h : Memory.read rest a = Memory.unlisted) :
    Memory.read (Memory.cons a v rest) a = v := by
  unfold Memory.cons
  split
  · rw [h]; exact Eq.symm ‹v = _›
  · simp [Memory.read_cons]

/-- A read of any other cell. -/
theorem Memory.read_cons_other {a b : Nat} (hne : b ≠ a) (v : Byte) (rest : Memory) :
    Memory.read (Memory.cons a v rest) b = Memory.read rest b := by
  unfold Memory.cons
  split
  · rfl
  · rw [Memory.read_cons, if_neg hne]

theorem Memory.wfFrom_consCell {lo a : Nat} (v : Byte) {rest : Memory} (hlo : lo ≤ a) (ha : a < 65536)
    (h : Memory.wfFrom (a + 1) rest = true) : Memory.wfFrom lo (Memory.cons a v rest) = true := by
  unfold Memory.cons
  split
  · exact Memory.wfFrom_mono (by omega) h
  · exact (Memory.wfFrom_cons ..).2 ⟨hlo, ha, ‹_›, h⟩

/-- A write keeps the canonical form. -/
theorem Memory.wfFrom_write {m : Memory} {lo a : Nat} (v : Byte) (h : Memory.wfFrom lo m = true) (hlo : lo ≤ a)
    (ha : a < 65536) : Memory.wfFrom lo (Memory.write m a v) = true := by
  induction m generalizing lo with
  | nil => exact Memory.wfFrom_consCell v hlo ha rfl
  | cons c rest ih =>
    obtain ⟨k, u⟩ := c
    have hk := (Memory.wfFrom_cons ..).1 h
    unfold Memory.write
    split
    · exact Memory.wfFrom_consCell v hlo ha ((Memory.wfFrom_cons ..).2 ⟨by omega, hk.2⟩)
    · split
      · subst_vars
        exact Memory.wfFrom_consCell v hlo ha hk.2.2.2
      · exact (Memory.wfFrom_cons ..).2 ⟨hk.1, hk.2.1, hk.2.2.1, ih hk.2.2.2 (by omega)⟩

theorem Memory.wf_write {m : Memory} (h : Memory.wf m = true) (a : Addr) (v : Byte) :
    Memory.wf (Memory.write m a.toNat v) = true :=
  Memory.wfFrom_write v h (Nat.zero_le _) a.isLt

/-- A read after a write to the same address gives the value written. -/
theorem Memory.read_write_same {m : Memory} {lo : Nat} (h : Memory.wfFrom lo m = true) (a : Nat) (v : Byte) :
    Memory.read (Memory.write m a v) a = v := by
  induction m generalizing lo with
  | nil => exact Memory.read_cons_same a v rfl
  | cons c rest ih =>
    obtain ⟨k, u⟩ := c
    have hk := (Memory.wfFrom_cons ..).1 h
    unfold Memory.write
    split
    · refine Memory.read_cons_same a v ?_
      rw [Memory.read_cons, if_neg (by omega), Memory.read_below hk.2.2.2 (by omega)]
    · split
      · subst_vars
        exact Memory.read_cons_same _ v (Memory.read_below hk.2.2.2 (by omega))
      · rw [Memory.read_cons, if_neg ‹_›, ih hk.2.2.2]

/-- A write leaves every other address alone. -/
theorem Memory.read_write_other (m : Memory) {a b : Nat} (hne : b ≠ a) (v : Byte) :
    Memory.read (Memory.write m a v) b = Memory.read m b := by
  induction m with
  | nil => exact Memory.read_cons_other hne v []
  | cons c rest ih =>
    obtain ⟨k, u⟩ := c
    unfold Memory.write
    split
    · exact Memory.read_cons_other hne v _
    · split
      · subst_vars
        rw [Memory.read_cons_other hne, Memory.read_cons, if_neg hne]
      · rw [Memory.read_cons, Memory.read_cons, ih]

/-! The same laws for the byte accessors of the state. -/

theorem State.memRead_memWrite_same {s : State} (h : Memory.wf s.mem = true) (a : Addr) (v : Byte) :
    (s.memWrite a v).memRead a = v := Memory.read_write_same h a.toNat v

theorem State.memRead_memWrite_other (s : State) {a b : Addr} (hne : b ≠ a) (v : Byte) :
    (s.memWrite a v).memRead b = s.memRead b :=
  Memory.read_write_other s.mem (fun e => hne (BitVec.eq_of_toNat_eq e)) v

theorem State.memWrite_wf {s : State} (h : Memory.wf s.mem = true) (a : Addr) (v : Byte) :
    Memory.wf (s.memWrite a v).mem = true := Memory.wf_write h a v

theorem State.push_wf {s : State} (h : Memory.wf s.mem = true) (v : Byte) : Memory.wf (s.push v).mem = true :=
  Memory.wf_write h (stackAddr s.sp) v

theorem State.placeBytes_wf {s : State} (h : Memory.wf s.mem = true) (a : Addr) (bytes : List Byte) :
    Memory.wf (s.placeBytes a bytes).mem = true := by
  induction bytes generalizing s a with
  | nil => exact h
  | cons v rest ih => exact ih (State.memWrite_wf h a v) (a + 1)

/-- Reads depend on memory alone. -/
theorem State.memRead_of_mem_eq {s t : State} (h : t.mem = s.mem) (a : Addr) : t.memRead a = s.memRead a := by
  unfold State.memRead; rw [h]

end Sys2Proof.Machine
end

