-- ==== Sys2Proof/Laws/Ops.lean ====
section
/-! SUPPORT. What each shared operation does, said once: byte order and extension, the stack, and the bodies the
instruction families share. -/

namespace Sys2Proof

/-! Bytes and words -/

theorem hiLo_toNat (hi lo : Byte) : (hiLo hi lo).toNat = hi.toNat * 256 + lo.toNat := by
  have := lo.isLt
  simp only [hiLo, BitVec.toNat_append, Nat.shiftLeft_eq]
  rw [Nat.mul_comm, ← Nat.two_pow_add_eq_or_of_lt this, Nat.mul_comm]

theorem hiByte_toNat (w : Addr) : (hiByte w).toNat = w.toNat / 256 := by
  have := w.isLt
  simp only [hiByte, BitVec.extractLsb'_toNat, Nat.shiftRight_eq_div_pow]
  omega

theorem loByte_toNat (w : Addr) : (loByte w).toNat = w.toNat % 256 := by
  simp [loByte, BitVec.extractLsb'_toNat]

@[simp] theorem hiByte_hiLo (hi lo : Byte) : hiByte (hiLo hi lo) = hi := by
  apply BitVec.eq_of_toNat_eq
  have := lo.isLt
  rw [hiByte_toNat, hiLo_toNat]
  omega

@[simp] theorem loByte_hiLo (hi lo : Byte) : loByte (hiLo hi lo) = lo := by
  apply BitVec.eq_of_toNat_eq
  have := lo.isLt
  rw [loByte_toNat, hiLo_toNat]
  omega

@[simp] theorem hiLo_hiByte_loByte (w : Addr) : hiLo (hiByte w) (loByte w) = w := by
  apply BitVec.eq_of_toNat_eq
  rw [hiLo_toNat, hiByte_toNat, loByte_toNat]
  omega

theorem zext16_toNat (b : Byte) : (zext16 b).toNat = b.toNat := by
  have := b.isLt
  simp only [zext16, BitVec.toNat_setWidth]
  omega

/-! Bits, as the numbers they say -/

/-- Bit 7 is set from 128 up. -/
theorem bit_seven_iff (v : Byte) : bit v 7 = true ↔ 128 ≤ v.toNat := by
  have := v.isLt
  simp only [bit, BitVec.getLsbD, Nat.testBit_eq_decide_div_mod_eq, decide_eq_true_eq]
  omega

/-- Bit 6, whatever bit 7. -/
theorem bit_six_iff (v : Byte) : bit v 6 = true ↔ 64 ≤ v.toNat % 128 := by
  have := v.isLt
  simp only [bit, BitVec.getLsbD, Nat.testBit_eq_decide_div_mod_eq, decide_eq_true_eq]
  omega

/-- Bit 0 is set in odd numbers. -/
theorem bit_zero_iff (v : Byte) : bit v 0 = true ↔ v.toNat % 2 = 1 := by
  simp only [bit, BitVec.getLsbD, Nat.testBit_eq_decide_div_mod_eq, decide_eq_true_eq]
  omega

/-- A byte is zero exactly when its number is. -/
theorem beq_zero_iff (v : Byte) : (v == 0) = true ↔ v.toNat = 0 := by
  rw [beq_iff_eq, ← BitVec.toNat_inj]
  rfl

end Sys2Proof

namespace Sys2Proof.Machine

/-! PC -/

/-- PC moved on by a length is PC plus it, modulo 65536. -/
theorem State.advance_pc_toNat (s : State) (n : Nat) : (s.advance n).pc.toNat = (s.pc.toNat + n) % 65536 := by
  simp [State.advance, BitVec.toNat_add]

/-! The stack -/

/-- A stack address is `0x0100 + SP` exactly: the sum never wraps. -/
theorem stackAddr_toNat (sp : Byte) : (stackAddr sp).toNat = 256 + sp.toNat := by
  have := sp.isLt
  simp only [stackAddr, BitVec.toNat_add, zext16_toNat]
  simp
  omega

theorem stackAddr_injective {p q : Byte} (h : stackAddr p = stackAddr q) : p = q := by
  have := congrArg BitVec.toNat h
  rw [stackAddr_toNat, stackAddr_toNat] at this
  exact BitVec.eq_of_toNat_eq (by omega)

theorem State.memRead_push_same {s : State} (h : Memory.wf s.mem = true) (v : Byte) :
    (s.push v).memRead (stackAddr s.sp) = v := Memory.read_write_same h _ v

theorem State.memRead_push_other (s : State) {a : Addr} (hne : a ≠ stackAddr s.sp) (v : Byte) :
    (s.push v).memRead a = s.memRead a := State.memRead_memWrite_other s hne v

@[simp] theorem State.memRead_advance (s : State) (n : Nat) (a : Addr) : (s.advance n).memRead a = s.memRead a := rfl
@[simp] theorem State.memRead_jump (s : State) (t a : Addr) : (s.jump t).memRead a = s.memRead a := rfl
@[simp] theorem State.memRead_afterPull (s : State) (a : Addr) : s.afterPull.memRead a = s.memRead a := rfl
@[simp] theorem State.memRead_setA (s : State) (v : Byte) (a : Addr) : (s.setA v).memRead a = s.memRead a := rfl
@[simp] theorem State.memRead_setX (s : State) (v : Byte) (a : Addr) : (s.setX v).memRead a = s.memRead a := rfl
@[simp] theorem State.memRead_setY (s : State) (v : Byte) (a : Addr) : (s.setY v).memRead a = s.memRead a := rfl

/-! The shared bodies of the instruction families -/

theorem bitwise_eq (op : Byte → Byte → Byte) (o : Operand) (s : State) :
    bitwise op o s =
      { s with
        a := op s.a (s.operandValue o)
        flags := s.flags.setZN (op s.a (s.operandValue o))
        pc := s.pc + BitVec.ofNat 16 (operandLength o) } := rfl

theorem shiftAcc_eq (f : Byte → Bool → Shifted) (s : State) :
    shiftAcc f s =
      { s with a := (f s.a s.flags.c).result, flags := s.flags.shifted (f s.a s.flags.c), pc := s.pc + 1 } := rfl

theorem shiftMem_eq (f : Byte → Bool → Shifted) (m : MemOperand) (s : State) :
    shiftMem f m s =
      { s with
        mem := Memory.write s.mem (s.effAddr m).toNat (f (s.memRead (s.effAddr m)) s.flags.c).result
        flags := s.flags.shifted (f (s.memRead (s.effAddr m)) s.flags.c)
        pc := s.pc + BitVec.ofNat 16 (memLength m) } := rfl

theorem compareWith_eq (r : Byte) (o : Operand) (s : State) :
    compareWith r o s =
      { s with
        flags := s.flags.compare r (s.operandValue o)
        pc := s.pc + BitVec.ofNat 16 (operandLength o) } := rfl

theorem bitTest_eq (m : MemOperand) (s : State) :
    bitTest m s =
      { s with
        flags := s.flags.bitTest s.a (s.memRead (s.effAddr m))
        pc := s.pc + BitVec.ofNat 16 (memLength m) } := rfl

theorem store_eq (v : Byte) (m : MemOperand) (s : State) :
    store v m s =
      { s with
        mem := Memory.write s.mem (s.effAddr m).toNat v
        pc := s.pc + BitVec.ofNat 16 (memLength m) } := rfl

theorem branch_eq (cond : Bool) (off : Byte) (s : State) :
    branch cond off s = { s with pc := if cond then s.pc + 2 + sext16 off else s.pc + 2 } := by
  cases cond <;> rfl

theorem withFlags_eq (p : Flags) (s : State) : withFlags p s = { s with flags := p, pc := s.pc + 1 } := rfl

theorem shiftThenOr_eq (m : MemOperand) (s : State) :
    shiftThenOr m s =
      { s with
        mem := Memory.write s.mem (s.effAddr m).toNat (s.memRead (s.effAddr m) <<< 1)
        a := s.a ||| s.memRead (s.effAddr m) <<< 1
        flags := { s.flags with c := bit (s.memRead (s.effAddr m)) 7 }.setZN (s.a ||| s.memRead (s.effAddr m) <<< 1)
        pc := s.pc + BitVec.ofNat 16 (memLength m) } := rfl

/-- The resolver reads X, Y and memory only. -/
theorem State.effAddr_congr {s t : State} (hx : t.x = s.x) (hy : t.y = s.y) (hm : t.mem = s.mem) (m : MemOperand) :
    t.effAddr m = s.effAddr m := by
  cases m <;> simp [State.effAddr, State.zeroPagePointer, State.memRead_of_mem_eq hm, hx, hy]

/-! The step -/

theorem step_eq (s : State) : step s = stepWith coreConfig s := rfl

theorem execWith_coreConfig (i : Instr) (s : State) : execWith coreConfig i s = exec i s := by
  cases i <;> rfl

theorem stepWith_jammed (cfg : Config) {s : State} (h : s.jammed = true) : stepWith cfg s = .fault .jammed := by
  simp [stepWith, h, jammedStep]

theorem stepWith_unmapped {cfg : Config} {s : State} (hj : s.jammed = false) (h : s.fetch cfg = none) :
    stepWith cfg s = .fault (.unknownOpcode (s.memRead s.pc)) := by
  simp [stepWith, hj, h, raiseUnknownOpcode]

theorem stepWith_mapped {cfg : Config} {s : State} {i : Instr} (hj : s.jammed = false) (h : s.fetch cfg = some i) :
    stepWith cfg s = execWith cfg i s := by
  simp [stepWith, hj, h]

end Sys2Proof.Machine
end

