-- ==== Sys2Proof/Laws/Decode.lean ====
section
/-! SUPPORT. The dispatch table: no byte has two entries, every entry's shape agrees with its mode, and how the decoder reads
each shape. -/

namespace Sys2Proof

set_option maxRecDepth 4000 in
/-- No byte has two fixed entries. -/
theorem opcodeTable_nodup : (opcodeTable.map Row.opcode).Nodup := by decide

set_option maxRecDepth 4000 in
/-- The operand bytes an entry's shape reads are those of its mode (R63). -/
theorem opcodeTable_shapes : ∀ r ∈ opcodeTable, r.shape.operandBytes = r.mode.operandBytes := by decide

/-- A candidate byte of JAM_OPCODE has no fixed entry. -/
theorem find_jamByte (j : JamByte) : (opcodeTable.find? fun r => r.opcode == j.byte) = none := by cases j <;> rfl

/-- A candidate byte of SLO_OPCODE has no fixed entry. -/
theorem find_sloForm (f : SloForm) : (opcodeTable.find? fun r => r.opcode == f.byte) = none := by cases f <;> rfl

/-- A fixed entry is found whatever the parameters. -/
theorem lookup_of_find {op : Byte} {r : Row} (h : (opcodeTable.find? fun r => r.opcode == op) = some r) (cfg : Config) :
    lookup cfg op = some r := by
  unfold lookup; rw [h]

/-- A candidate byte of JAM_OPCODE is mapped exactly when the parameter selects it (R86). -/
theorem lookup_jamByte (cfg : Config) (j : JamByte) :
    lookup cfg j.byte = if cfg.jamOpcode = some j then some (jamRow j) else none := by
  have h : (jamBytes.find? fun k => k.byte == j.byte) = some j := by cases j <;> rfl
  simp only [lookup, find_jamByte, parameterRow, h]

/-- A candidate byte of SLO_OPCODE is mapped exactly when the parameter selects it (R87). -/
theorem lookup_sloForm (cfg : Config) (f : SloForm) :
    lookup cfg f.byte = if cfg.sloOpcode = some f then some (sloRow f) else none := by
  have hj : (jamBytes.find? fun k => k.byte == f.byte) = none := by cases f <;> rfl
  have hs : (sloForms.find? fun k => k.byte == f.byte) = some f := by cases f <;> rfl
  simp only [lookup, find_sloForm, parameterRow, hj, hs]

/-- What a mapped byte's entry can be: a fixed one, the JAM entry or the SLO entry (R83, R86, R87). -/
theorem lookup_cases {cfg : Config} {op : Byte} {r : Row} (h : lookup cfg op = some r) :
    (r ∈ opcodeTable ∧ r.opcode = op) ∨
    (∃ j, cfg.jamOpcode = some j ∧ op = j.byte ∧ r = jamRow j) ∨
    (∃ f, cfg.sloOpcode = some f ∧ op = f.byte ∧ r = sloRow f) := by
  unfold lookup at h
  split at h
  · rename_i hf
    cases h
    exact .inl ⟨List.mem_of_find?_eq_some hf, by simpa using List.find?_some hf⟩
  · unfold parameterRow at h
    split at h
    · rename_i j hj
      split at h
      · cases h
        have hb := List.find?_some hj
        exact .inr (.inl ⟨j, ‹_›, by simpa using (beq_iff_eq.1 hb).symm, rfl⟩)
      · simp at h
    · split at h
      · rename_i f hf
        split at h
        · cases h
          have hb := List.find?_some hf
          exact .inr (.inr ⟨f, ‹_›, by simpa using (beq_iff_eq.1 hb).symm, rfl⟩)
        · simp at h
      · simp at h

/-- An unmapped first byte is rejected by name. -/
theorem decode_unmapped {cfg : Config} {op : Byte} (h : lookup cfg op = none) (rest : List Byte) :
    decode cfg (op :: rest) = .error (.unmapped op) := by
  simp [decode, h]

/-- An entry without operand bytes. -/
theorem decode_none {cfg : Config} {op : Byte} {r : Row} {i : Instr} (h : lookup cfg op = some r) (hs : r.shape = .none i)
    (rest : List Byte) : decode cfg (op :: rest) = .ok i := by
  simp [decode, h, hs]

/-- An entry with one operand byte. -/
theorem decode_byte {cfg : Config} {op : Byte} {r : Row} {make : Byte → Instr} (h : lookup cfg op = some r)
    (hs : r.shape = .byte make) (b : Byte) (rest : List Byte) : decode cfg (op :: b :: rest) = .ok (make b) := by
  simp [decode, h, hs]

/-- An entry with a 16-bit operand, little-endian. -/
theorem decode_word {cfg : Config} {op : Byte} {r : Row} {make : Addr → Instr} (h : lookup cfg op = some r)
    (hs : r.shape = .word make) (lo hi : Byte) (rest : List Byte) :
    decode cfg (op :: lo :: hi :: rest) = .ok (make (hiLo hi lo)) := by
  simp [decode, h, hs]

/-- The decoder gives the encoder's 16-bit operand back. -/
theorem decode_encodeWord {cfg : Config} {op : Byte} {r : Row} {make : Addr → Instr} (h : lookup cfg op = some r)
    (hs : r.shape = .word make) (a : Addr) (rest : List Byte) : decode cfg (encodeWord op a ++ rest) = .ok (make a) := by
  simp [encodeWord, decode, h, hs]

/-- What decodes from three bytes is what the fetch builds from them. -/
theorem decode_three (cfg : Config) (op b1 b2 : Byte) :
    decode cfg [op, b1, b2] = match decodeBytes cfg op b1 b2 with
      | some i => .ok i
      | none => .error (.unmapped op) := by
  cases h : lookup cfg op with
  | none => simp [decode, decodeBytes, h]
  | some r =>
    obtain ⟨_, _, _, shape⟩ := r
    cases shape <;> simp [decode, decodeBytes, h, Shape.build]

end Sys2Proof
end

