-- ==== Sys2Proof/Laws/PerInstr.lean ====
section
/-! SUPPORT. One fact per constructor of Instr: an encoded instruction is one opcode byte followed by 0, 1 or 2 operand
bytes (30_encoding R63). -/

namespace Sys2Proof.Laws.EncodedBytes

def Statement (i : Instr) : Prop :=
  ∀ cfg : Config, wellFormed cfg i = true →
    ∃ (op : Byte) (operands : List Byte), encode cfg i = op :: operands ∧ operands.length ≤ 2

/-- The encoding is a list of at most three bytes, written out. -/
theorem of_encode {i : Instr} (op : Byte) (operands : List Byte) (hlen : operands.length ≤ 2)
    (h : ∀ cfg, encode cfg i = op :: operands) : Statement i := fun cfg _ => ⟨op, operands, h cfg, hlen⟩

theorem oraImm (v : Byte) : Statement (.oraImm v) := of_encode 0x09 [v] (by simp) fun _ => rfl
theorem oraZp (b : Byte) : Statement (.oraZp b) := of_encode 0x05 [b] (by simp) fun _ => rfl
theorem oraZpx (b : Byte) : Statement (.oraZpx b) := of_encode 0x15 [b] (by simp) fun _ => rfl
theorem oraAbs (a : Addr) : Statement (.oraAbs a) := of_encode 0x0D [loByte a, hiByte a] (by simp) fun _ => rfl
theorem oraAbsx (a : Addr) : Statement (.oraAbsx a) := of_encode 0x1D [loByte a, hiByte a] (by simp) fun _ => rfl
theorem oraAbsy (a : Addr) : Statement (.oraAbsy a) := of_encode 0x19 [loByte a, hiByte a] (by simp) fun _ => rfl
theorem oraIndx (b : Byte) : Statement (.oraIndx b) := of_encode 0x01 [b] (by simp) fun _ => rfl
theorem oraIndy (b : Byte) : Statement (.oraIndy b) := of_encode 0x11 [b] (by simp) fun _ => rfl
theorem andImm (v : Byte) : Statement (.andImm v) := of_encode 0x29 [v] (by simp) fun _ => rfl
theorem andZp (b : Byte) : Statement (.andZp b) := of_encode 0x25 [b] (by simp) fun _ => rfl
theorem andZpx (b : Byte) : Statement (.andZpx b) := of_encode 0x35 [b] (by simp) fun _ => rfl
theorem andAbs (a : Addr) : Statement (.andAbs a) := of_encode 0x2D [loByte a, hiByte a] (by simp) fun _ => rfl
theorem andAbsx (a : Addr) : Statement (.andAbsx a) := of_encode 0x3D [loByte a, hiByte a] (by simp) fun _ => rfl
theorem andAbsy (a : Addr) : Statement (.andAbsy a) := of_encode 0x39 [loByte a, hiByte a] (by simp) fun _ => rfl
theorem andIndx (b : Byte) : Statement (.andIndx b) := of_encode 0x21 [b] (by simp) fun _ => rfl
theorem andIndy (b : Byte) : Statement (.andIndy b) := of_encode 0x31 [b] (by simp) fun _ => rfl
theorem eorImm (v : Byte) : Statement (.eorImm v) := of_encode 0x49 [v] (by simp) fun _ => rfl
theorem eorZp (b : Byte) : Statement (.eorZp b) := of_encode 0x45 [b] (by simp) fun _ => rfl
theorem eorZpx (b : Byte) : Statement (.eorZpx b) := of_encode 0x55 [b] (by simp) fun _ => rfl
theorem eorAbs (a : Addr) : Statement (.eorAbs a) := of_encode 0x4D [loByte a, hiByte a] (by simp) fun _ => rfl
theorem eorAbsx (a : Addr) : Statement (.eorAbsx a) := of_encode 0x5D [loByte a, hiByte a] (by simp) fun _ => rfl
theorem eorAbsy (a : Addr) : Statement (.eorAbsy a) := of_encode 0x59 [loByte a, hiByte a] (by simp) fun _ => rfl
theorem eorIndx (b : Byte) : Statement (.eorIndx b) := of_encode 0x41 [b] (by simp) fun _ => rfl
theorem eorIndy (b : Byte) : Statement (.eorIndy b) := of_encode 0x51 [b] (by simp) fun _ => rfl
theorem aslAcc : Statement .aslAcc := of_encode 0x0A [] (by simp) fun _ => rfl
theorem aslZp (b : Byte) : Statement (.aslZp b) := of_encode 0x06 [b] (by simp) fun _ => rfl
theorem aslZpx (b : Byte) : Statement (.aslZpx b) := of_encode 0x16 [b] (by simp) fun _ => rfl
theorem aslAbs (a : Addr) : Statement (.aslAbs a) := of_encode 0x0E [loByte a, hiByte a] (by simp) fun _ => rfl
theorem aslAbsx (a : Addr) : Statement (.aslAbsx a) := of_encode 0x1E [loByte a, hiByte a] (by simp) fun _ => rfl
theorem lsrAcc : Statement .lsrAcc := of_encode 0x4A [] (by simp) fun _ => rfl
theorem lsrZp (b : Byte) : Statement (.lsrZp b) := of_encode 0x46 [b] (by simp) fun _ => rfl
theorem lsrZpx (b : Byte) : Statement (.lsrZpx b) := of_encode 0x56 [b] (by simp) fun _ => rfl
theorem lsrAbs (a : Addr) : Statement (.lsrAbs a) := of_encode 0x4E [loByte a, hiByte a] (by simp) fun _ => rfl
theorem lsrAbsx (a : Addr) : Statement (.lsrAbsx a) := of_encode 0x5E [loByte a, hiByte a] (by simp) fun _ => rfl
theorem rolAcc : Statement .rolAcc := of_encode 0x2A [] (by simp) fun _ => rfl
theorem rolZp (b : Byte) : Statement (.rolZp b) := of_encode 0x26 [b] (by simp) fun _ => rfl
theorem rolZpx (b : Byte) : Statement (.rolZpx b) := of_encode 0x36 [b] (by simp) fun _ => rfl
theorem rolAbs (a : Addr) : Statement (.rolAbs a) := of_encode 0x2E [loByte a, hiByte a] (by simp) fun _ => rfl
theorem rolAbsx (a : Addr) : Statement (.rolAbsx a) := of_encode 0x3E [loByte a, hiByte a] (by simp) fun _ => rfl
theorem rorAcc : Statement .rorAcc := of_encode 0x6A [] (by simp) fun _ => rfl
theorem rorZp (b : Byte) : Statement (.rorZp b) := of_encode 0x66 [b] (by simp) fun _ => rfl
theorem rorZpx (b : Byte) : Statement (.rorZpx b) := of_encode 0x76 [b] (by simp) fun _ => rfl
theorem rorAbs (a : Addr) : Statement (.rorAbs a) := of_encode 0x6E [loByte a, hiByte a] (by simp) fun _ => rfl
theorem rorAbsx (a : Addr) : Statement (.rorAbsx a) := of_encode 0x7E [loByte a, hiByte a] (by simp) fun _ => rfl
theorem cmpImm (v : Byte) : Statement (.cmpImm v) := of_encode 0xC9 [v] (by simp) fun _ => rfl
theorem cmpZp (b : Byte) : Statement (.cmpZp b) := of_encode 0xC5 [b] (by simp) fun _ => rfl
theorem cmpZpx (b : Byte) : Statement (.cmpZpx b) := of_encode 0xD5 [b] (by simp) fun _ => rfl
theorem cmpAbs (a : Addr) : Statement (.cmpAbs a) := of_encode 0xCD [loByte a, hiByte a] (by simp) fun _ => rfl
theorem cmpAbsx (a : Addr) : Statement (.cmpAbsx a) := of_encode 0xDD [loByte a, hiByte a] (by simp) fun _ => rfl
theorem cmpAbsy (a : Addr) : Statement (.cmpAbsy a) := of_encode 0xD9 [loByte a, hiByte a] (by simp) fun _ => rfl
theorem cmpIndx (b : Byte) : Statement (.cmpIndx b) := of_encode 0xC1 [b] (by simp) fun _ => rfl
theorem cmpIndy (b : Byte) : Statement (.cmpIndy b) := of_encode 0xD1 [b] (by simp) fun _ => rfl
theorem cpxImm (v : Byte) : Statement (.cpxImm v) := of_encode 0xE0 [v] (by simp) fun _ => rfl
theorem cpxZp (b : Byte) : Statement (.cpxZp b) := of_encode 0xE4 [b] (by simp) fun _ => rfl
theorem cpxAbs (a : Addr) : Statement (.cpxAbs a) := of_encode 0xEC [loByte a, hiByte a] (by simp) fun _ => rfl
theorem cpyImm (v : Byte) : Statement (.cpyImm v) := of_encode 0xC0 [v] (by simp) fun _ => rfl
theorem cpyZp (b : Byte) : Statement (.cpyZp b) := of_encode 0xC4 [b] (by simp) fun _ => rfl
theorem cpyAbs (a : Addr) : Statement (.cpyAbs a) := of_encode 0xCC [loByte a, hiByte a] (by simp) fun _ => rfl
theorem bitZp (b : Byte) : Statement (.bitZp b) := of_encode 0x24 [b] (by simp) fun _ => rfl
theorem bitAbs (a : Addr) : Statement (.bitAbs a) := of_encode 0x2C [loByte a, hiByte a] (by simp) fun _ => rfl
theorem ldaImm (v : Byte) : Statement (.ldaImm v) := of_encode 0xA9 [v] (by simp) fun _ => rfl
theorem ldaZp (b : Byte) : Statement (.ldaZp b) := of_encode 0xA5 [b] (by simp) fun _ => rfl
theorem ldaZpx (b : Byte) : Statement (.ldaZpx b) := of_encode 0xB5 [b] (by simp) fun _ => rfl
theorem ldaAbs (a : Addr) : Statement (.ldaAbs a) := of_encode 0xAD [loByte a, hiByte a] (by simp) fun _ => rfl
theorem ldaAbsx (a : Addr) : Statement (.ldaAbsx a) := of_encode 0xBD [loByte a, hiByte a] (by simp) fun _ => rfl
theorem ldaAbsy (a : Addr) : Statement (.ldaAbsy a) := of_encode 0xB9 [loByte a, hiByte a] (by simp) fun _ => rfl
theorem ldaIndx (b : Byte) : Statement (.ldaIndx b) := of_encode 0xA1 [b] (by simp) fun _ => rfl
theorem ldaIndy (b : Byte) : Statement (.ldaIndy b) := of_encode 0xB1 [b] (by simp) fun _ => rfl
theorem ldxImm (v : Byte) : Statement (.ldxImm v) := of_encode 0xA2 [v] (by simp) fun _ => rfl
theorem ldxZp (b : Byte) : Statement (.ldxZp b) := of_encode 0xA6 [b] (by simp) fun _ => rfl
theorem ldxZpy (b : Byte) : Statement (.ldxZpy b) := of_encode 0xB6 [b] (by simp) fun _ => rfl
theorem ldxAbs (a : Addr) : Statement (.ldxAbs a) := of_encode 0xAE [loByte a, hiByte a] (by simp) fun _ => rfl
theorem ldxAbsy (a : Addr) : Statement (.ldxAbsy a) := of_encode 0xBE [loByte a, hiByte a] (by simp) fun _ => rfl
theorem ldyImm (v : Byte) : Statement (.ldyImm v) := of_encode 0xA0 [v] (by simp) fun _ => rfl
theorem ldyZp (b : Byte) : Statement (.ldyZp b) := of_encode 0xA4 [b] (by simp) fun _ => rfl
theorem ldyZpx (b : Byte) : Statement (.ldyZpx b) := of_encode 0xB4 [b] (by simp) fun _ => rfl
theorem ldyAbs (a : Addr) : Statement (.ldyAbs a) := of_encode 0xAC [loByte a, hiByte a] (by simp) fun _ => rfl
theorem ldyAbsx (a : Addr) : Statement (.ldyAbsx a) := of_encode 0xBC [loByte a, hiByte a] (by simp) fun _ => rfl
theorem staZp (b : Byte) : Statement (.staZp b) := of_encode 0x85 [b] (by simp) fun _ => rfl
theorem staZpx (b : Byte) : Statement (.staZpx b) := of_encode 0x95 [b] (by simp) fun _ => rfl
theorem staAbs (a : Addr) : Statement (.staAbs a) := of_encode 0x8D [loByte a, hiByte a] (by simp) fun _ => rfl
theorem staAbsx (a : Addr) : Statement (.staAbsx a) := of_encode 0x9D [loByte a, hiByte a] (by simp) fun _ => rfl
theorem staAbsy (a : Addr) : Statement (.staAbsy a) := of_encode 0x99 [loByte a, hiByte a] (by simp) fun _ => rfl
theorem staIndx (b : Byte) : Statement (.staIndx b) := of_encode 0x81 [b] (by simp) fun _ => rfl
theorem staIndy (b : Byte) : Statement (.staIndy b) := of_encode 0x91 [b] (by simp) fun _ => rfl
theorem stxZp (b : Byte) : Statement (.stxZp b) := of_encode 0x86 [b] (by simp) fun _ => rfl
theorem stxZpy (b : Byte) : Statement (.stxZpy b) := of_encode 0x96 [b] (by simp) fun _ => rfl
theorem stxAbs (a : Addr) : Statement (.stxAbs a) := of_encode 0x8E [loByte a, hiByte a] (by simp) fun _ => rfl
theorem styZp (b : Byte) : Statement (.styZp b) := of_encode 0x84 [b] (by simp) fun _ => rfl
theorem styZpx (b : Byte) : Statement (.styZpx b) := of_encode 0x94 [b] (by simp) fun _ => rfl
theorem styAbs (a : Addr) : Statement (.styAbs a) := of_encode 0x8C [loByte a, hiByte a] (by simp) fun _ => rfl
theorem tax : Statement .tax := of_encode 0xAA [] (by simp) fun _ => rfl
theorem tay : Statement .tay := of_encode 0xA8 [] (by simp) fun _ => rfl
theorem txa : Statement .txa := of_encode 0x8A [] (by simp) fun _ => rfl
theorem tya : Statement .tya := of_encode 0x98 [] (by simp) fun _ => rfl
theorem tsx : Statement .tsx := of_encode 0xBA [] (by simp) fun _ => rfl
theorem txs : Statement .txs := of_encode 0x9A [] (by simp) fun _ => rfl
theorem inx : Statement .inx := of_encode 0xE8 [] (by simp) fun _ => rfl
theorem iny : Statement .iny := of_encode 0xC8 [] (by simp) fun _ => rfl
theorem dex : Statement .dex := of_encode 0xCA [] (by simp) fun _ => rfl
theorem dey : Statement .dey := of_encode 0x88 [] (by simp) fun _ => rfl
theorem pha : Statement .pha := of_encode 0x48 [] (by simp) fun _ => rfl
theorem pla : Statement .pla := of_encode 0x68 [] (by simp) fun _ => rfl
theorem php : Statement .php := of_encode 0x08 [] (by simp) fun _ => rfl
theorem plp : Statement .plp := of_encode 0x28 [] (by simp) fun _ => rfl
theorem bpl (off : Byte) : Statement (.bpl off) := of_encode 0x10 [off] (by simp) fun _ => rfl
theorem bmi (off : Byte) : Statement (.bmi off) := of_encode 0x30 [off] (by simp) fun _ => rfl
theorem bvc (off : Byte) : Statement (.bvc off) := of_encode 0x50 [off] (by simp) fun _ => rfl
theorem bvs (off : Byte) : Statement (.bvs off) := of_encode 0x70 [off] (by simp) fun _ => rfl
theorem bcc (off : Byte) : Statement (.bcc off) := of_encode 0x90 [off] (by simp) fun _ => rfl
theorem bcs (off : Byte) : Statement (.bcs off) := of_encode 0xB0 [off] (by simp) fun _ => rfl
theorem bne (off : Byte) : Statement (.bne off) := of_encode 0xD0 [off] (by simp) fun _ => rfl
theorem beq (off : Byte) : Statement (.beq off) := of_encode 0xF0 [off] (by simp) fun _ => rfl
theorem jmpAbs (target : Addr) : Statement (.jmpAbs target) := of_encode 0x4C [loByte target, hiByte target] (by simp) fun _ => rfl
theorem jmpInd (ptr : Addr) : Statement (.jmpInd ptr) := of_encode 0x6C [loByte ptr, hiByte ptr] (by simp) fun _ => rfl
theorem jsr (target : Addr) : Statement (.jsr target) := of_encode 0x20 [loByte target, hiByte target] (by simp) fun _ => rfl
theorem rts : Statement .rts := of_encode 0x60 [] (by simp) fun _ => rfl
theorem clc : Statement .clc := of_encode 0x18 [] (by simp) fun _ => rfl
theorem sec : Statement .sec := of_encode 0x38 [] (by simp) fun _ => rfl
theorem cli : Statement .cli := of_encode 0x58 [] (by simp) fun _ => rfl
theorem sei : Statement .sei := of_encode 0x78 [] (by simp) fun _ => rfl
theorem cld : Statement .cld := of_encode 0xD8 [] (by simp) fun _ => rfl
theorem sed : Statement .sed := of_encode 0xF8 [] (by simp) fun _ => rfl
theorem clv : Statement .clv := of_encode 0xB8 [] (by simp) fun _ => rfl
theorem brk : Statement .brk := of_encode 0x00 [0x00] (by simp) fun _ => rfl
theorem nop : Statement .nop := of_encode 0xEA [] (by simp) fun _ => rfl

theorem jam : Statement .jam := by
  intro cfg h
  cases hj : cfg.jamOpcode with
  | none => simp [wellFormed, hj] at h
  | some j => exact ⟨j.byte, [], by simp [encode, hj], by simp⟩

theorem slo (o : SloOperand) : Statement (.slo o) := by
  intro cfg _
  cases o <;> exact ⟨_, _, rfl, by simp⟩

end Sys2Proof.Laws.EncodedBytes
end

