-- ==== Sys2Proof/Tests/Slice0.lean ====
section
/-! SUPPORT. Tests of the model: instructions refused as ill formed; the decoding of every constructor, by words written from
the map of 30_encoding R83; single steps, whose expected results are the vectors of spec/95_test_vectors.md, each test named
after its vector; and, for every statement that has hypotheses, a witness that meets them. -/

namespace Sys2Proof.Tests

open Sys2Proof Sys2Proof.Machine Sys2Proof.Claims

/-! Parameters and states the tests use -/

/-- No parameter entry, no page wrap: the parameters the vectors state unless they say otherwise. -/
def plain : Config := ⟨none, none, false⟩

/-- Indirect JMP reads the target's high byte from the pointer's page. -/
def wrapping : Config := ⟨none, none, true⟩

/-- JAM is 0x12. -/
def jam12 : Config := ⟨some .h12, none, false⟩

/-- SLO is 0x07, zero page. -/
def sloZp : Config := ⟨none, some .zp, false⟩

/-- SLO is 0x1F, absolute indexed by X. -/
def sloAbsx : Config := ⟨none, some .absx, false⟩

/-- The seven flags, all 0. -/
def noFlags : Flags := ⟨false, false, false, false, false, false, false⟩

/-- Data bytes written one by one. -/
def poke (s : State) : List (Addr × Byte) → State
  | [] => s
  | (addr, v) :: rest => poke (s.writeByte addr v) rest

/-- A launch state: data and program bytes written, PC at the program. -/
def launch (pc : Addr) (program : List Byte) (data : List (Addr × Byte)) (s : State) : State :=
  ((poke s data).placeBytes pc program).setPC pc

/-- The state one call of `step()` later. -/
def after (cfg : Config) (s : State) : State := (stepCall cfg s).1

/-- The bytes decode to the instruction. -/
def decodesTo (cfg : Config) (bytes : List Byte) (i : Instr) : Bool :=
  match decode cfg bytes with
  | .ok j => j == i
  | .error _ => false

/-- The bytes are rejected for the reason. -/
def rejectedAs (cfg : Config) (bytes : List Byte) (why : Reject) : Bool :=
  match decode cfg bytes with
  | .ok _ => false
  | .error e => e == why

/-! WellFormed smoke: the ill-formed terms of each check -/

theorem test_illFormed_jam_without_parameter : wellFormed plain .jam = false := by decide

theorem test_illFormed_slo_without_parameter : wellFormed plain (.slo (.zp 0x10)) = false := by decide

theorem test_illFormed_slo_in_another_form : wellFormed sloZp (.slo (.absx 0x0300)) = false := by decide

theorem test_wellFormed_with_the_parameter :
    wellFormed jam12 .jam = true ∧ wellFormed sloZp (.slo (.zp 0x10)) = true ∧ wellFormed plain .nop = true := by decide

/-! Decoding: a word of every constructor. The operand bytes are 0x34, and 0x34 0x12 for the 16-bit operand 0x1234. -/

/-- Words of the bitwise rows. -/
def wordsBitwise : List (List Byte × Instr) :=
  [([0x09, 0x34], .oraImm 0x34), ([0x05, 0x34], .oraZp 0x34), ([0x15, 0x34], .oraZpx 0x34),
   ([0x0D, 0x34, 0x12], .oraAbs 0x1234), ([0x1D, 0x34, 0x12], .oraAbsx 0x1234), ([0x19, 0x34, 0x12], .oraAbsy 0x1234),
   ([0x01, 0x34], .oraIndx 0x34), ([0x11, 0x34], .oraIndy 0x34), ([0x29, 0x34], .andImm 0x34),
   ([0x25, 0x34], .andZp 0x34), ([0x35, 0x34], .andZpx 0x34), ([0x2D, 0x34, 0x12], .andAbs 0x1234),
   ([0x3D, 0x34, 0x12], .andAbsx 0x1234), ([0x39, 0x34, 0x12], .andAbsy 0x1234), ([0x21, 0x34], .andIndx 0x34),
   ([0x31, 0x34], .andIndy 0x34), ([0x49, 0x34], .eorImm 0x34), ([0x45, 0x34], .eorZp 0x34),
   ([0x55, 0x34], .eorZpx 0x34), ([0x4D, 0x34, 0x12], .eorAbs 0x1234), ([0x5D, 0x34, 0x12], .eorAbsx 0x1234),
   ([0x59, 0x34, 0x12], .eorAbsy 0x1234), ([0x41, 0x34], .eorIndx 0x34), ([0x51, 0x34], .eorIndy 0x34)]

theorem test_decode_bitwise : wordsBitwise.all (fun e => decodesTo plain e.1 e.2) = true := by decide

/-- Words of the shift rows. -/
def wordsShift : List (List Byte × Instr) :=
  [([0x0A], .aslAcc), ([0x06, 0x34], .aslZp 0x34), ([0x16, 0x34], .aslZpx 0x34), ([0x0E, 0x34, 0x12], .aslAbs 0x1234),
   ([0x1E, 0x34, 0x12], .aslAbsx 0x1234), ([0x4A], .lsrAcc), ([0x46, 0x34], .lsrZp 0x34), ([0x56, 0x34], .lsrZpx 0x34),
   ([0x4E, 0x34, 0x12], .lsrAbs 0x1234), ([0x5E, 0x34, 0x12], .lsrAbsx 0x1234), ([0x2A], .rolAcc),
   ([0x26, 0x34], .rolZp 0x34), ([0x36, 0x34], .rolZpx 0x34), ([0x2E, 0x34, 0x12], .rolAbs 0x1234),
   ([0x3E, 0x34, 0x12], .rolAbsx 0x1234), ([0x6A], .rorAcc), ([0x66, 0x34], .rorZp 0x34), ([0x76, 0x34], .rorZpx 0x34),
   ([0x6E, 0x34, 0x12], .rorAbs 0x1234), ([0x7E, 0x34, 0x12], .rorAbsx 0x1234)]

theorem test_decode_shift : wordsShift.all (fun e => decodesTo plain e.1 e.2) = true := by decide

/-- Words of the compare rows. -/
def wordsCompare : List (List Byte × Instr) :=
  [([0xC9, 0x34], .cmpImm 0x34), ([0xC5, 0x34], .cmpZp 0x34), ([0xD5, 0x34], .cmpZpx 0x34),
   ([0xCD, 0x34, 0x12], .cmpAbs 0x1234), ([0xDD, 0x34, 0x12], .cmpAbsx 0x1234), ([0xD9, 0x34, 0x12], .cmpAbsy 0x1234),
   ([0xC1, 0x34], .cmpIndx 0x34), ([0xD1, 0x34], .cmpIndy 0x34), ([0xE0, 0x34], .cpxImm 0x34),
   ([0xE4, 0x34], .cpxZp 0x34), ([0xEC, 0x34, 0x12], .cpxAbs 0x1234), ([0xC0, 0x34], .cpyImm 0x34),
   ([0xC4, 0x34], .cpyZp 0x34), ([0xCC, 0x34, 0x12], .cpyAbs 0x1234), ([0x24, 0x34], .bitZp 0x34),
   ([0x2C, 0x34, 0x12], .bitAbs 0x1234)]

theorem test_decode_compare : wordsCompare.all (fun e => decodesTo plain e.1 e.2) = true := by decide

/-- Words of the load rows. -/
def wordsLoad : List (List Byte × Instr) :=
  [([0xA9, 0x34], .ldaImm 0x34), ([0xA5, 0x34], .ldaZp 0x34), ([0xB5, 0x34], .ldaZpx 0x34),
   ([0xAD, 0x34, 0x12], .ldaAbs 0x1234), ([0xBD, 0x34, 0x12], .ldaAbsx 0x1234), ([0xB9, 0x34, 0x12], .ldaAbsy 0x1234),
   ([0xA1, 0x34], .ldaIndx 0x34), ([0xB1, 0x34], .ldaIndy 0x34), ([0xA2, 0x34], .ldxImm 0x34),
   ([0xA6, 0x34], .ldxZp 0x34), ([0xB6, 0x34], .ldxZpy 0x34), ([0xAE, 0x34, 0x12], .ldxAbs 0x1234),
   ([0xBE, 0x34, 0x12], .ldxAbsy 0x1234), ([0xA0, 0x34], .ldyImm 0x34), ([0xA4, 0x34], .ldyZp 0x34),
   ([0xB4, 0x34], .ldyZpx 0x34), ([0xAC, 0x34, 0x12], .ldyAbs 0x1234), ([0xBC, 0x34, 0x12], .ldyAbsx 0x1234)]

theorem test_decode_load : wordsLoad.all (fun e => decodesTo plain e.1 e.2) = true := by decide

/-- Words of the store rows. -/
def wordsStore : List (List Byte × Instr) :=
  [([0x85, 0x34], .staZp 0x34), ([0x95, 0x34], .staZpx 0x34), ([0x8D, 0x34, 0x12], .staAbs 0x1234),
   ([0x9D, 0x34, 0x12], .staAbsx 0x1234), ([0x99, 0x34, 0x12], .staAbsy 0x1234), ([0x81, 0x34], .staIndx 0x34),
   ([0x91, 0x34], .staIndy 0x34), ([0x86, 0x34], .stxZp 0x34), ([0x96, 0x34], .stxZpy 0x34),
   ([0x8E, 0x34, 0x12], .stxAbs 0x1234), ([0x84, 0x34], .styZp 0x34), ([0x94, 0x34], .styZpx 0x34),
   ([0x8C, 0x34, 0x12], .styAbs 0x1234)]

theorem test_decode_store : wordsStore.all (fun e => decodesTo plain e.1 e.2) = true := by decide

/-- Words of the register rows. -/
def wordsRegister : List (List Byte × Instr) :=
  [([0xAA], .tax), ([0xA8], .tay), ([0x8A], .txa), ([0x98], .tya), ([0xBA], .tsx), ([0x9A], .txs), ([0xE8], .inx),
   ([0xC8], .iny), ([0xCA], .dex), ([0x88], .dey)]

theorem test_decode_register : wordsRegister.all (fun e => decodesTo plain e.1 e.2) = true := by decide

/-- Words of the stack rows. -/
def wordsStack : List (List Byte × Instr) :=
  [([0x48], .pha), ([0x68], .pla), ([0x08], .php), ([0x28], .plp)]

theorem test_decode_stack : wordsStack.all (fun e => decodesTo plain e.1 e.2) = true := by decide

/-- Words of the branch rows. -/
def wordsBranch : List (List Byte × Instr) :=
  [([0x10, 0x34], .bpl 0x34), ([0x30, 0x34], .bmi 0x34), ([0x50, 0x34], .bvc 0x34), ([0x70, 0x34], .bvs 0x34),
   ([0x90, 0x34], .bcc 0x34), ([0xB0, 0x34], .bcs 0x34), ([0xD0, 0x34], .bne 0x34), ([0xF0, 0x34], .beq 0x34)]

theorem test_decode_branch : wordsBranch.all (fun e => decodesTo plain e.1 e.2) = true := by decide

/-- Words of the jump rows. -/
def wordsJump : List (List Byte × Instr) :=
  [([0x4C, 0x34, 0x12], .jmpAbs 0x1234), ([0x6C, 0x34, 0x12], .jmpInd 0x1234), ([0x20, 0x34, 0x12], .jsr 0x1234),
   ([0x60], .rts)]

theorem test_decode_jump : wordsJump.all (fun e => decodesTo plain e.1 e.2) = true := by decide

/-- Words of the flag rows. -/
def wordsFlag : List (List Byte × Instr) :=
  [([0x18], .clc), ([0x38], .sec), ([0x58], .cli), ([0x78], .sei), ([0xD8], .cld), ([0xF8], .sed), ([0xB8], .clv),
   ([0x00, 0x12], .brk), ([0xEA], .nop)]

theorem test_decode_flag : wordsFlag.all (fun e => decodesTo plain e.1 e.2) = true := by decide

/-- Words of the JAM and SLO rows. -/
def wordsJamSlo : List (Config × List Byte × Instr) :=
  [(jam12, [0x12], .jam), (⟨some .h22, none, false⟩, [0x22], .jam), (⟨some .h32, none, false⟩, [0x32], .jam),
   (⟨some .h42, none, false⟩, [0x42], .jam), (⟨some .h52, none, false⟩, [0x52], .jam),
   (⟨some .h62, none, false⟩, [0x62], .jam), (⟨some .h72, none, false⟩, [0x72], .jam),
   (⟨some .h92, none, false⟩, [0x92], .jam), (⟨some .hB2, none, false⟩, [0xB2], .jam),
   (⟨some .hD2, none, false⟩, [0xD2], .jam), (⟨some .hF2, none, false⟩, [0xF2], .jam),
   (⟨none, some .indx, false⟩, [0x03, 0x34], .slo (.indx 0x34)), (sloZp, [0x07, 0x34], .slo (.zp 0x34)),
   (⟨none, some .abs, false⟩, [0x0F, 0x34, 0x12], .slo (.abs 0x1234)),
   (⟨none, some .indy, false⟩, [0x13, 0x34], .slo (.indy 0x34)),
   (⟨none, some .zpx, false⟩, [0x17, 0x34], .slo (.zpx 0x34)),
   (⟨none, some .absy, false⟩, [0x1B, 0x34, 0x12], .slo (.absy 0x1234)),
   (sloAbsx, [0x1F, 0x34, 0x12], .slo (.absx 0x1234))]

theorem test_decode_jam_slo : wordsJamSlo.all (fun e => decodesTo e.1 e.2.1 e.2.2) = true := by decide

/-- One word of each family, bit by bit. -/
theorem test_decode_bits :
    decodesTo plain [0b01001001, 0b10000001] (.eorImm 0x81) = true ∧
    decodesTo plain [0b01110110, 0b00001111] (.rorZpx 0x0F) = true ∧
    decodesTo plain [0b00101100, 0b00000001, 0b10000000] (.bitAbs 0x8001) = true ∧
    decodesTo plain [0b10111110, 0b00000001, 0b10000000] (.ldxAbsy 0x8001) = true ∧
    decodesTo plain [0b10010001, 0b01111110] (.staIndy 0x7E) = true ∧
    decodesTo plain [0b10111010] .tsx = true ∧ decodesTo plain [0b11001000] .iny = true ∧
    decodesTo plain [0b01001000] .pha = true ∧ decodesTo plain [0b01110000, 0b10000000] (.bvs 0x80) = true ∧
    decodesTo plain [0b00100000, 0b00000001, 0b10000000] (.jsr 0x8001) = true ∧
    decodesTo plain [0b11111000] .sed = true ∧ decodesTo jam12 [0b00010010] .jam = true ∧
    decodesTo sloAbsx [0b00011111, 0b00000001, 0b10000000] (.slo (.absx 0x8001)) = true := by decide

/-- Unmapped bytes (R84, R85), missing operand bytes, no byte. -/
theorem test_decode_rejects :
    rejectedAs plain [0x02] (.unmapped 0x02) = true ∧ rejectedAs plain [0x69, 0x01] (.unmapped 0x69) = true ∧
    rejectedAs plain [0x12] (.unmapped 0x12) = true ∧ rejectedAs jam12 [0x22] (.unmapped 0x22) = true ∧
    rejectedAs plain [0x07, 0x10] (.unmapped 0x07) = true ∧ rejectedAs plain [0xAD, 0x34] (.truncated 0xAD) = true ∧
    rejectedAs plain [] .empty = true := by decide

/-- The table's numbering: the opcode byte is the low byte of the word. -/
theorem test_decodeTableWord :
    decodeTableWord 16 0x10A9 = some (.ldaImm 0x10) ∧ decodeTableWord 24 0x12348D = some (.staAbs 0x1234) ∧
    decodeTableWord 8 0x00 = some .brk ∧ decodeTableWord 8 0x02 = none := by decide

/-! Single steps: the vectors of spec/95_test_vectors.md -/

theorem test_ldaImm_e1 :
    let t := after plain (launch 0x0000 [0xA9, 0x10] [] State.reset)
    t.a = 0x10 ∧ t.flags.z = false ∧ t.flags.n = false ∧ t.pc = 0x0002 := by decide

theorem test_ldaImm_e8 :
    let t := after plain (launch 0x0600 [0xA9, 0x01] [] { State.reset with flags := { noFlags with z := true, n := true } })
    t.a = 0x01 ∧ t.flags.z = false ∧ t.flags.n = false := by decide

theorem test_andImm_e2 :
    let t := after plain (launch 0x0600 [0x29, 0xAA] [] { State.reset with a := 0x55 })
    t.a = 0x00 ∧ t.flags.z = true ∧ t.flags.n = false ∧ t.pc = 0x0602 := by decide

theorem test_aslAcc_e3 :
    let t := after plain (launch 0x0600 [0x0A] [] { State.reset with a := 0x80 })
    t.a = 0x00 ∧ t.flags.c = true ∧ t.flags.z = true ∧ t.flags.n = false ∧ t.pc = 0x0601 := by decide

theorem test_ldaZp_am2 :
    let t := after plain (launch 0x0600 [0xA5, 0x10] [(0x0010, 0x80)] State.reset)
    t.a = 0x80 ∧ t.flags.z = false ∧ t.flags.n = true ∧ t.pc = 0x0602 := by decide

theorem test_ldaZpx_am3 :
    let t := after plain (launch 0x0600 [0xB5, 0xF0] [(0x0010, 0x11), (0x0110, 0x22)] { State.reset with x := 0x20 })
    t.a = 0x11 := by decide

theorem test_ldxZpy_am4 :
    let t := after plain (launch 0x0600 [0xB6, 0xF0] [(0x0010, 0x33)] { State.reset with y := 0x20 })
    t.x = 0x33 := by decide

theorem test_ldaAbs_am5 :
    let t := after plain (launch 0x0600 [0xAD, 0x34, 0x12] [(0x1234, 0x01)] State.reset)
    t.a = 0x01 ∧ t.pc = 0x0603 := by decide

theorem test_ldaAbsx_am6 :
    let t := after plain (launch 0x0600 [0xBD, 0xF0, 0x12] [(0x1310, 0x44)] { State.reset with x := 0x20 })
    t.a = 0x44 := by decide

theorem test_ldaAbsx_am7 :
    let t := after plain (launch 0x0600 [0xBD, 0xF0, 0xFF] [(0x0010, 0x55)] { State.reset with x := 0x20 })
    t.a = 0x55 := by decide

theorem test_ldaAbsy_am8 :
    let t := after plain (launch 0x0600 [0xB9, 0x01, 0x00] [(0x0100, 0x66)] { State.reset with y := 0xFF })
    t.a = 0x66 := by decide

theorem test_ldaIndx_am9 :
    let t := after plain (launch 0x0600 [0xA1, 0x20] [(0x0024, 0x00), (0x0025, 0x03), (0x0300, 0x77)] { State.reset with x := 0x04 })
    t.a = 0x77 := by decide

theorem test_ldaIndx_am10 :
    let t := after plain (launch 0x0600 [0xA1, 0xFE] [(0x00FF, 0x00), (0x0000, 0x04), (0x0400, 0x88)] { State.reset with x := 0x01 })
    t.a = 0x88 := by decide

theorem test_ldaIndy_am13 :
    let t := after plain (launch 0x0600 [0xB1, 0x20] [(0x0020, 0xF0), (0x0021, 0xFF), (0x0010, 0xAA)] { State.reset with y := 0x20 })
    t.a = 0xAA := by decide

theorem test_ldaIndy_am14 :
    let t := after plain (launch 0x0600 [0xB1, 0xFF] [(0x00FF, 0x00), (0x0000, 0x05), (0x0100, 0x07), (0x0500, 0x12), (0x0700, 0x34)] State.reset)
    t.a = 0x12 := by decide

theorem test_ldaAbs_am16 :
    let t := after plain (launch 0xFFFF [0xAD, 0x00, 0x03] [(0x0300, 0x01)] State.reset)
    t.a = 0x01 ∧ t.pc = 0x0002 := by decide

theorem test_oraZp_bw1 :
    let t := after plain (launch 0x0600 [0x05, 0x10] [(0x0010, 0xF0)] { State.reset with a := 0x0F })
    t.a = 0xFF ∧ t.flags.z = false ∧ t.flags.n = true := by decide

theorem test_oraImm_bw2 :
    let t := after plain (launch 0x0600 [0x09, 0x00] [] { State.reset with flags := { noFlags with c := true, v := true } })
    t.a = 0x00 ∧ t.flags.z = true ∧ t.flags.n = false ∧ t.flags.c = true ∧ t.flags.v = true := by decide

theorem test_andImm_bw3 :
    let t := after plain (launch 0x0600 [0x29, 0xFF] [] { State.reset with a := 0x80 })
    t.a = 0x80 ∧ t.flags.z = false ∧ t.flags.n = true := by decide

theorem test_eorImm_bw4 :
    let t := after plain (launch 0x0600 [0x49, 0x5A] [] { State.reset with a := 0x5A, flags := { noFlags with n := true } })
    t.a = 0x00 ∧ t.flags.z = true ∧ t.flags.n = false := by decide

theorem test_eorImm_bw5 :
    let t := after plain (launch 0x0600 [0x49, 0x0F] [] { State.reset with a := 0xFF })
    t.a = 0xF0 ∧ t.flags.z = false ∧ t.flags.n = true := by decide

theorem test_oraImm_bw6 :
    let t := after plain (launch 0x0600 [0x09, 0x0A] [] { State.reset with a := 0x50 })
    t.a = 0x5A ∧ t.flags.z = false ∧ t.flags.n = false := by decide

theorem test_andAbsx_bw7 :
    let t := after plain (launch 0x0600 [0x3D, 0x34, 0x12] [(0x1235, 0x3C)] { State.reset with a := 0xC3, x := 0x01 })
    t.a = 0x00 ∧ t.flags.z = true ∧ t.flags.n = false := by decide

theorem test_aslAcc_sr1 :
    let t := after plain (launch 0x0600 [0x0A] [] { State.reset with a := 0x40, flags := { noFlags with c := true } })
    t.a = 0x80 ∧ t.flags.c = false ∧ t.flags.z = false ∧ t.flags.n = true := by decide

theorem test_aslZp_sr2 :
    let t := after plain (launch 0x0600 [0x06, 0x10] [(0x0010, 0xFF)] State.reset)
    t.memRead 0x0010 = 0xFE ∧ t.flags.c = true ∧ t.flags.z = false ∧ t.flags.n = true ∧ t.a = 0x00 := by decide

theorem test_lsrAcc_sr3 :
    let t := after plain (launch 0x0600 [0x4A] [] { State.reset with a := 0x01, flags := { noFlags with n := true } })
    t.a = 0x00 ∧ t.flags.c = true ∧ t.flags.z = true ∧ t.flags.n = false := by decide

theorem test_lsrAcc_sr4 :
    let t := after plain (launch 0x0600 [0x4A] [] { State.reset with a := 0x81 })
    t.a = 0x40 ∧ t.flags.c = true ∧ t.flags.z = false ∧ t.flags.n = false := by decide

theorem test_lsrAbsx_sr5 :
    let t := after plain (launch 0x0600 [0x5E, 0x34, 0x12] [(0x1235, 0x80)] { State.reset with x := 0x01 })
    t.memRead 0x1235 = 0x40 ∧ t.flags.c = false ∧ t.flags.z = false ∧ t.flags.n = false := by decide

theorem test_rolAcc_sr7 :
    let t := after plain (launch 0x0600 [0x2A] [] { State.reset with a := 0x00, flags := { noFlags with c := true } })
    t.a = 0x01 ∧ t.flags.c = false ∧ t.flags.z = false ∧ t.flags.n = false := by decide

theorem test_rolAcc_sr8 :
    let t := after plain (launch 0x0600 [0x2A] [] { State.reset with a := 0xFF, flags := { noFlags with c := true } })
    t.a = 0xFF ∧ t.flags.c = true ∧ t.flags.z = false ∧ t.flags.n = true := by decide

theorem test_rorAcc_sr9 :
    let t := after plain (launch 0x0600 [0x6A] [] { State.reset with a := 0x01 })
    t.a = 0x00 ∧ t.flags.c = true ∧ t.flags.z = true ∧ t.flags.n = false := by decide

theorem test_rorAcc_sr10 :
    let t := after plain (launch 0x0600 [0x6A] [] { State.reset with a := 0x00, flags := { noFlags with c := true } })
    t.a = 0x80 ∧ t.flags.c = false ∧ t.flags.z = false ∧ t.flags.n = true := by decide

theorem test_rorZpx_sr11 :
    let t := after plain (launch 0x0600 [0x76, 0x20] [(0x0010, 0x81)] { State.reset with x := 0xF0, flags := { noFlags with c := true } })
    t.memRead 0x0010 = 0xC0 ∧ t.flags.c = true ∧ t.flags.z = false ∧ t.flags.n = true := by decide

theorem test_rolZp_sr12 :
    let t := after plain (launch 0x0600 [0x26, 0x10] [(0x0010, 0x40)] { State.reset with flags := { noFlags with c := true } })
    t.memRead 0x0010 = 0x81 ∧ t.flags.c = false ∧ t.flags.z = false ∧ t.flags.n = true := by decide

theorem test_cmpImm_cb2 :
    let t := after plain (launch 0x0600 [0xC9, 0x01] [] { State.reset with a := 0x00 })
    t.flags.c = false ∧ t.flags.z = false ∧ t.flags.n = true ∧ t.a = 0x00 := by decide

theorem test_cmpImm_cb4 :
    let t := after plain (launch 0x0600 [0xC9, 0x80] [] { State.reset with a := 0x01 })
    t.flags.c = false ∧ t.flags.z = false ∧ t.flags.n = true ∧ t.a = 0x01 := by decide

theorem test_cpxImm_cb7 :
    let t := after plain (launch 0x0600 [0xE0, 0x06] [] { State.reset with x := 0x05 })
    t.flags.c = false ∧ t.flags.z = false ∧ t.flags.n = true := by decide

theorem test_cpxImm_cb9 :
    let t := after plain (launch 0x0600 [0xE0, 0x00] [] { State.reset with x := 0x00 })
    t.flags.c = true ∧ t.flags.z = true ∧ t.flags.n = false := by decide

theorem test_cpyZp_cb8 :
    let t := after plain (launch 0x0600 [0xC4, 0x10] [(0x0010, 0x0F)] { State.reset with y := 0x10 })
    t.flags.c = true ∧ t.flags.z = false ∧ t.flags.n = false := by decide

theorem test_bitZp_cb11 :
    let t := after plain (launch 0x0600 [0x24, 0x10] [(0x0010, 0xC0)] { State.reset with a := 0x3F })
    t.flags.z = true ∧ t.flags.n = true ∧ t.flags.v = true ∧ t.a = 0x3F := by decide

theorem test_bitZp_cb12 :
    let t := after plain (launch 0x0600 [0x24, 0x10] [(0x0010, 0x00)] { State.reset with a := 0xFF, flags := { noFlags with n := true, v := true } })
    t.flags.z = true ∧ t.flags.n = false ∧ t.flags.v = false := by decide

theorem test_bitAbs_cb13 :
    let t := after plain (launch 0x0600 [0x2C, 0x00, 0x03] [(0x0300, 0x80)] { State.reset with a := 0x80, flags := { noFlags with c := true } })
    t.flags.z = false ∧ t.flags.n = true ∧ t.flags.v = false ∧ t.flags.c = true := by decide

theorem test_ldxImm_ls2 :
    let t := after plain (launch 0x0600 [0xA2, 0xFF] [] State.reset)
    t.x = 0xFF ∧ t.flags.z = false ∧ t.flags.n = true := by decide

theorem test_ldyAbsx_ls3 :
    let t := after plain (launch 0x0600 [0xBC, 0x00, 0x03] [(0x0302, 0x7E)] { State.reset with x := 0x02 })
    t.y = 0x7E ∧ t.flags.z = false ∧ t.flags.n = false := by decide

theorem test_ldxAbsy_ls4 :
    let t := after plain (launch 0x0600 [0xBE, 0x00, 0x03] [(0x0301, 0x90)] { State.reset with y := 0x01 })
    t.x = 0x90 ∧ t.flags.n = true := by decide

theorem test_staZpx_ls5 :
    let t := after plain (launch 0x0600 [0x95, 0x10] [] { State.reset with a := 0x12, x := 0x05, flags := { noFlags with z := true } })
    t.memRead 0x0015 = 0x12 ∧ t.flags.z = true := by decide

theorem test_stxZpy_ls6 :
    let t := after plain (launch 0x0600 [0x96, 0xF0] [] { State.reset with y := 0x20, x := 0x07 })
    t.memRead 0x0010 = 0x07 := by decide

theorem test_styZpx_ls7 :
    let t := after plain (launch 0x0600 [0x94, 0x01] [] { State.reset with y := 0x09, x := 0xFF })
    t.memRead 0x0000 = 0x09 := by decide

theorem test_staAbs_ls8 :
    let t := after plain (launch 0x0600 [0x8D, 0x00, 0x03] [] { State.reset with a := 0x12 })
    t.memRead 0x0300 = 0x12 := by decide

theorem test_tax_ls9 :
    let t := after plain (launch 0x0600 [0xAA] [] { State.reset with a := 0x80 })
    t.x = 0x80 ∧ t.flags.z = false ∧ t.flags.n = true := by decide

theorem test_tay_ls10 :
    let t := after plain (launch 0x0600 [0xA8] [] { State.reset with a := 0x00, flags := { noFlags with n := true } })
    t.y = 0x00 ∧ t.flags.z = true ∧ t.flags.n = false := by decide

theorem test_txa_ls11 :
    let t := after plain (launch 0x0600 [0x8A] [] { State.reset with x := 0x7F })
    t.a = 0x7F ∧ t.flags.z = false ∧ t.flags.n = false := by decide

theorem test_tya_ls12 :
    let t := after plain (launch 0x0600 [0x98] [] { State.reset with y := 0xFE })
    t.a = 0xFE ∧ t.flags.z = false ∧ t.flags.n = true := by decide

theorem test_tsx_ls13 :
    let t := after plain (launch 0x0600 [0xBA] [] State.reset)
    t.x = 0xFF ∧ t.flags.z = false ∧ t.flags.n = true := by decide

theorem test_txs_ls14 :
    let t := after plain (launch 0x0600 [0x9A] [] { State.reset with x := 0x00 })
    t.sp = 0x00 ∧ t.flags.z = false := by decide

theorem test_inx_id1 :
    let t := after plain (launch 0x0600 [0xE8] [] { State.reset with x := 0xFF, flags := { noFlags with c := true, v := true } })
    t.x = 0x00 ∧ t.flags.z = true ∧ t.flags.n = false ∧ t.flags.c = true ∧ t.flags.v = true := by decide

theorem test_iny_id3 :
    let t := after plain (launch 0x0600 [0xC8] [] { State.reset with y := 0xFF })
    t.y = 0x00 ∧ t.flags.z = true ∧ t.flags.n = false := by decide

theorem test_dex_id4 :
    let t := after plain (launch 0x0600 [0xCA] [] { State.reset with x := 0x00 })
    t.x = 0xFF ∧ t.flags.z = false ∧ t.flags.n = true := by decide

theorem test_dey_id6 :
    let t := after plain (launch 0x0600 [0x88] [] { State.reset with y := 0x80 })
    t.y = 0x7F ∧ t.flags.z = false ∧ t.flags.n = false := by decide

theorem test_pha_st1 :
    let t := after plain (launch 0x0600 [0x48] [] { State.reset with a := 0x42 })
    t.memRead 0x01FF = 0x42 ∧ t.sp = 0xFE := by decide

theorem test_pha_st2 :
    let t := after plain (launch 0x0600 [0x48] [] { State.reset with a := 0x42, sp := 0x00 })
    t.memRead 0x0100 = 0x42 ∧ t.sp = 0xFF := by decide

theorem test_pla_st3 :
    let t := after plain (launch 0x0600 [0x68] [(0x01FF, 0x80)] { State.reset with sp := 0xFE })
    t.a = 0x80 ∧ t.flags.z = false ∧ t.flags.n = true ∧ t.sp = 0xFF := by decide

theorem test_pla_st4 :
    let t := after plain (launch 0x0600 [0x68] [(0x0100, 0x00)] { State.reset with sp := 0xFF, flags := { noFlags with n := true } })
    t.a = 0x00 ∧ t.flags.z = true ∧ t.flags.n = false ∧ t.sp = 0x00 := by decide

theorem test_php_st5 :
    let t := after plain (launch 0x0600 [0x08] [] State.reset)
    t.memRead 0x01FF = 0x20 ∧ t.sp = 0xFE := by decide

theorem test_php_st7 :
    let t := after plain (launch 0x0600 [0x08] [] { State.reset with flags := { noFlags with b := true, i := true } })
    t.memRead 0x01FF = 0x34 := by decide

theorem test_plp_st8 :
    let t := after plain (launch 0x0600 [0x28] [(0x01FF, 0xC3)] { State.reset with sp := 0xFE })
    t.flags.c = true ∧ t.flags.z = true ∧ t.flags.i = false ∧ t.flags.d = false ∧ t.flags.b = false ∧ t.flags.v = true ∧ t.flags.n = true ∧ t.flags.encodeP = 0xE3 ∧ t.sp = 0xFF := by decide

theorem test_plp_st10 :
    let t := after plain (launch 0x0600 [0x28] [(0x01FF, 0x20)] { State.reset with sp := 0xFE })
    t.flags.c = false ∧ t.flags.z = false ∧ t.flags.i = false ∧ t.flags.d = false ∧ t.flags.b = false ∧ t.flags.v = false ∧ t.flags.n = false ∧ t.flags.encodeP = 0x20 := by decide

theorem test_bpl_br1_not_taken :
    let t := after plain (launch 0x0600 [0x10, 0x10] [] { State.reset with flags := { noFlags with n := true } })
    t.pc = 0x0602 := by decide

theorem test_bpl_br1_taken :
    let t := after plain (launch 0x0600 [0x10, 0x10] [] { State.reset with flags := { noFlags with n := false } })
    t.pc = 0x0612 := by decide

theorem test_bmi_br2_not_taken :
    let t := after plain (launch 0x0600 [0x30, 0x10] [] { State.reset with flags := { noFlags with n := false } })
    t.pc = 0x0602 := by decide

theorem test_bmi_br2_taken :
    let t := after plain (launch 0x0600 [0x30, 0x10] [] { State.reset with flags := { noFlags with n := true } })
    t.pc = 0x0612 := by decide

theorem test_bvc_br3_not_taken :
    let t := after plain (launch 0x0600 [0x50, 0x10] [] { State.reset with flags := { noFlags with v := true } })
    t.pc = 0x0602 := by decide

theorem test_bvc_br3_taken :
    let t := after plain (launch 0x0600 [0x50, 0x10] [] { State.reset with flags := { noFlags with v := false } })
    t.pc = 0x0612 := by decide

theorem test_bvs_br4_not_taken :
    let t := after plain (launch 0x0600 [0x70, 0x10] [] { State.reset with flags := { noFlags with v := false } })
    t.pc = 0x0602 := by decide

theorem test_bcc_br5_not_taken :
    let t := after plain (launch 0x0600 [0x90, 0x10] [] { State.reset with flags := { noFlags with c := true } })
    t.pc = 0x0602 := by decide

theorem test_bcs_br6_not_taken :
    let t := after plain (launch 0x0600 [0xB0, 0x10] [] { State.reset with flags := { noFlags with c := false } })
    t.pc = 0x0602 := by decide

theorem test_bne_br7_not_taken :
    let t := after plain (launch 0x0600 [0xD0, 0x10] [] { State.reset with flags := { noFlags with z := true } })
    t.pc = 0x0602 := by decide

theorem test_beq_br8_not_taken :
    let t := after plain (launch 0x0600 [0xF0, 0x10] [] { State.reset with flags := { noFlags with z := false } })
    t.pc = 0x0602 := by decide

theorem test_beq_br10 :
    let t := after plain (launch 0x0010 [0xF0, 0xFE] [] { State.reset with flags := { noFlags with z := true } })
    t.pc = 0x0010 := by decide

theorem test_bvs_br11 :
    let t := after plain (launch 0x0600 [0x70, 0x7F] [] { State.reset with flags := { noFlags with v := true } })
    t.pc = 0x0681 := by decide

theorem test_bcc_br14 :
    let t := after plain (launch 0x0000 [0x90, 0x80] [] State.reset)
    t.pc = 0xFF82 := by decide

theorem test_bcs_br13 :
    let t := after plain (launch 0xFFF0 [0xB0, 0x7F] [] { State.reset with flags := { noFlags with c := true } })
    t.pc = 0x0071 := by decide

theorem test_bne_br15 :
    let t := after plain (launch 0xFFFF [0xD0, 0x05] [] State.reset)
    t.pc = 0x0006 := by decide

theorem test_jmpAbs_j1 :
    let t := after plain (launch 0x0600 [0x4C, 0x00, 0xC0] [] State.reset)
    t.pc = 0xC000 := by decide

theorem test_jmpInd_j3_no_wrap :
    let t := after plain (launch 0x0600 [0x6C, 0xFF, 0x10] [(0x10FF, 0x20), (0x1100, 0x09), (0x1000, 0x0A)] State.reset)
    t.pc = 0x0920 := by decide

theorem test_jmpInd_j4_wrap :
    let t := after wrapping (launch 0x0600 [0x6C, 0xFF, 0xFF] [(0xFFFF, 0x00), (0x0000, 0x07), (0xFF00, 0x08)] State.reset)
    t.pc = 0x0800 := by decide

theorem test_jsr_j5 :
    let t := after plain (launch 0x0604 [0x20, 0x10, 0x06] [] State.reset)
    t.memRead 0x01FF = 0x06 ∧ t.memRead 0x01FE = 0x06 ∧ t.sp = 0xFD ∧ t.pc = 0x0610 := by decide

theorem test_jsr_j6 :
    let t := after plain (launch 0x0600 [0x20, 0x34, 0x12] [] { State.reset with sp := 0x00 })
    t.memRead 0x0100 = 0x06 ∧ t.memRead 0x01FF = 0x02 ∧ t.sp = 0xFE ∧ t.pc = 0x1234 := by decide

theorem test_rts_j8 :
    let t := after plain (launch 0x0600 [0x60] [(0x01FE, 0xFF), (0x01FF, 0xFF)] { State.reset with sp := 0xFD })
    t.pc = 0x0000 ∧ t.sp = 0xFF := by decide

theorem test_rts_j9 :
    let t := after plain (launch 0x0600 [0x60] [(0x01FF, 0x02), (0x0100, 0x06)] { State.reset with sp := 0xFE })
    t.pc = 0x0603 ∧ t.sp = 0x00 := by decide

theorem test_clc_fl1 :
    let t := after plain (launch 0x0600 [0x18] [] { State.reset with flags := { noFlags with c := true } })
    t.flags.c = false ∧ t.pc = 0x0601 := by decide

theorem test_sec_fl2 :
    let t := after plain (launch 0x0600 [0x38] [] State.reset)
    t.flags.c = true ∧ t.flags.encodeP = 0x21 := by decide

theorem test_cli_fl3 :
    let t := after plain (launch 0x0600 [0x58] [] { State.reset with flags := { noFlags with i := true } })
    t.flags.i = false := by decide

theorem test_sei_fl4 :
    let t := after plain (launch 0x0600 [0x78] [] State.reset)
    t.flags.i = true ∧ t.flags.encodeP = 0x24 := by decide

theorem test_cld_fl5 :
    let t := after plain (launch 0x0600 [0xD8] [] { State.reset with flags := { noFlags with d := true } })
    t.flags.d = false := by decide

theorem test_sed_fl6 :
    let t := after plain (launch 0x0600 [0xF8] [] State.reset)
    t.flags.d = true ∧ t.flags.encodeP = 0x28 := by decide

theorem test_clv_fl7 :
    let t := after plain (launch 0x0600 [0xB8] [] { State.reset with flags := { noFlags with v := true } })
    t.flags.v = false := by decide

theorem test_brk_fl8 :
    let t := after plain (launch 0x0000 [0x00, 0x00] [] State.reset)
    t.flags.encodeP = 0x34 ∧ t.pc = 0x0002 ∧ t.sp = 0xFF := by decide

theorem test_brk_fl9 :
    let t := after plain (launch 0xFFFF [0x00] [] State.reset)
    t.pc = 0x0001 ∧ t.flags.b = true ∧ t.flags.i = true := by decide

theorem test_nop_fl11 :
    let t := after plain (launch 0xFFFF [0xEA] [] State.reset)
    t.pc = 0x0000 := by decide

theorem test_jam_il1 :
    let t := after jam12 (launch 0x0700 [0x12] [] State.reset)
    t.jammed = true ∧ t.pc = 0x0700 := by decide

theorem test_slo_il5 :
    let t := after sloZp (launch 0x0600 [0x07, 0x10] [(0x0010, 0xC0)] { State.reset with a := 0x01 })
    t.memRead 0x0010 = 0x80 ∧ t.a = 0x81 ∧ t.flags.c = true ∧ t.flags.z = false ∧ t.flags.n = true ∧ t.pc = 0x0602 := by decide

theorem test_slo_il7 :
    let t := after sloAbsx (launch 0x0600 [0x1F, 0x00, 0x03] [(0x0301, 0x01)] { State.reset with a := 0x10, x := 0x01 })
    t.memRead 0x0301 = 0x02 ∧ t.a = 0x12 ∧ t.flags.c = false ∧ t.flags.z = false ∧ t.flags.n = false ∧ t.pc = 0x0603 := by decide

/-! The errors, the halted core, the host (spec/95_test_vectors.md sections 2.11 and 2.12) -/

theorem test_unmapped_e7 : stepCall plain (launch 0x0600 [0x02] [] State.reset) =
    (launch 0x0600 [0x02] [] State.reset, .unknownOpcode 0x02) := by decide

theorem test_unmapped_un3 : stepCall plain (launch 0x0600 [0xE6, 0x10] [] State.reset) =
    (launch 0x0600 [0xE6, 0x10] [] State.reset, .unknownOpcode 0xE6) := by decide

theorem test_jammed_un5 : stepCall jam12 { launch 0x0600 [0x02] [] State.reset with jammed := true } =
    ({ launch 0x0600 [0x02] [] State.reset with jammed := true }, .ok) := by decide

theorem test_run_p7 : (runCall jam12 5 (launch 0x0600 [0xA9, 0x01, 0x12] [] State.reset)).2 = .jammed ∧
    (runCall plain 5 (launch 0x0600 [0xA9, 0x01, 0x12] [] State.reset)).2 = .unknownOpcode 0x12 := by decide

theorem test_host_step : (match step (State.reset.withFetchWord 16 0x10A9) with
    | .next t => t.a
    | _ => 0x00) = 0x10 := by decide

/-! Witnesses: the hypotheses of the statements are met -/

/-- `DecodeOfEncodeIsTheInstruction`: a fixed form, and both parameter forms. -/
theorem witness_DecodeOfEncodeIsTheInstruction :
    wellFormed plain (.ldaAbs 0xFFFF) = true ∧ wellFormed jam12 .jam = true ∧
    wellFormed sloAbsx (.slo (.absx 0xFFFF)) = true := by decide

/-- `DecodedBytesBeginWithTheEncoding` and `OpcodeByteAloneDecidesTheForm`: BRK, and another. -/
theorem witness_DecodedBytesBeginWithTheEncoding :
    decodesTo plain [0xA9, 0xFF] (.ldaImm 0xFF) = true ∧ decodesTo plain [0x00] .brk = true := by decide

/-- `TableIsExactlyTheOpcodeMap` and `ParameterBytesAreJamAndSlo`: a fixed entry, JAM, SLO of either length. -/
theorem witness_ParameterBytesAreJamAndSlo :
    tableEntry plain 0xF8 = some (.sed, .imp) ∧ tableEntry jam12 0x12 = some (.jam, .imp) ∧
    tableEntry sloZp 0x07 = some (.slo, .zp) ∧ tableEntry sloAbsx 0x1F = some (.slo, .absx) := by decide

/-- `AbsentInstructionsAreUnmapped`: the last byte of the list. -/
theorem witness_AbsentInstructionsAreUnmapped :
    (0x40 : Byte) ∈ ([0x61, 0x65, 0x69, 0x6D, 0x71, 0x75, 0x79, 0x7D] ++ [0xE1, 0xE5, 0xE9, 0xED, 0xF1, 0xF5, 0xF9, 0xFD] ++
      [0xE6, 0xEE, 0xF6, 0xFE] ++ [0xC6, 0xCE, 0xD6, 0xDE] ++ [0x40] : List Byte) := by decide

/-- `ZeroPageFormsWrapAtEightBits` and `JmpIndirectGoesThroughThePointer`: entries of the two modes. -/
theorem witness_ZeroPageFormsWrapAtEightBits :
    tableEntry plain 0x96 = some (.stx, .zpy) ∧ tableEntry plain 0xB6 = some (.ldx, .zpy) ∧
    tableEntry plain 0x6C = some (.jmp, .ind) := by decide

/-- `PointerFormsReadTheZeroPage`: a pointer that wraps, for each clause (vectors AM10 and AM14). -/
theorem witness_PointerFormsReadTheZeroPage :
    (0x00FF : Addr).toNat = ((0xFE : Byte).toNat + (0x01 : Byte).toNat) % 256 ∧
    (0x0000 : Addr).toNat = ((0xFE : Byte).toNat + (0x01 : Byte).toNat + 1) % 256 ∧
    (0x00FF : Addr).toNat = (0xFF : Byte).toNat ∧ (0x0000 : Addr).toNat = ((0xFF : Byte).toNat + 1) % 256 := by decide

/-- The invariant, the hypothesis of the statements about stores, pushes, SLO, JSR, the host's setters, placing a word and
self-modification: at reset, and where memory lists bytes. -/
theorem witness_Inv : State.reset.Inv ∧ (launch 0xFFFF [0x8D, 0x00, 0x03] [(0x0010, 0x80)] State.reset).Inv := by
  decide

/-- `EveryStepKeepsMemoryCanonical`: a step that answers a next state, and a state reached by it. -/
theorem witness_EveryStepKeepsMemoryCanonical : ∃ s t : State, s.Inv ∧ stepWith plain s = .next t ∧ step s = .next t ∧
    Reaches s t :=
  ⟨State.reset, _, by decide, rfl, rfl, .tail (.refl _) rfl⟩

/-- `CanonicalMemoriesThatReadAlikeAreEqual`: two different states. -/
theorem witness_CanonicalMemoriesThatReadAlikeAreEqual :
    ∃ s t : State, s ≠ t ∧ s.Inv ∧ t.Inv ∧ SameMemory s t :=
  ⟨State.reset, { State.reset with a := 0x01 }, by decide, by decide, by decide, fun _ => rfl⟩

/-- The statements over every instruction that answers a next state: one of each class of `pcAfter` does. -/
theorem witness_next :
    [Instr.bpl 0x80, .bmi 0x80, .jmpAbs 0xFFFF, .jmpInd 0x00FF, .jsr 0x0000, .rts, .brk, .jam, .ldaAbs 0xFFFF].all
      (fun i => match exec i State.reset with
        | .next _ => true
        | _ => false) = true := by decide

/-- `OnlyTheListedInstructionsWriteEachFlag` and `OnlyTheListedInstructionsWriteEachRegister`: NOP is in no list, and the
memory form of ASL meets the second clause on A. -/
theorem witness_lists :
    Mnemonic.nop ∉ writesC ∧ Mnemonic.nop ∉ writesZN ∧ Mnemonic.nop ∉ writesA ∧ Mnemonic.nop ∉ [Mnemonic.sei, .cli, .brk, .plp] ∧
    Mnemonic.nop ∉ [Mnemonic.sed, .cld, .plp] ∧ Mnemonic.nop ∉ [Mnemonic.bit, .clv, .plp] ∧
    (Instr.aslZp 0xFF).mode ≠ .acc ∧ (Instr.aslZp 0xFF).mnemonic ∈ [Mnemonic.asl, .lsr, .rol, .ror] := by decide

/-- `OnlyBitAndPlpSetOverflow`: BIT of a byte with bit 6 set (vector CB10). -/
theorem witness_OnlyBitAndPlpSetOverflow :
    ∃ t, exec (.bitZp 0x10) (poke State.reset [(0x0010, 0x41)]) = .next t ∧ State.reset.flags.v = false ∧ t.flags.v = true :=
  ⟨_, rfl, rfl, by decide⟩

/-- `FlagsIDBAffectNoOtherResult`: two states that differ in I, D and B. -/
theorem witness_FlagsIDBAffectNoOtherResult :
    AgreeButIDB State.reset { State.reset with flags := { noFlags with i := true, d := true, b := true } } ∧
    Instr.plp ≠ .php ∧ ∃ t, exec .plp State.reset = .next t :=
  ⟨by unfold AgreeButIDB SameRegisters; decide, by decide, _, rfl⟩

/-- `MemoryChangesOnlyWhereAnInstructionStores`: addresses outside the stored ones, next to them. -/
theorem witness_MemoryChangesOnlyWhereAnInstructionStores :
    (0xFFFE : Addr) ∉ storedAddrs (.staAbs 0xFFFF) State.reset ∧ (0x0000 : Addr) ∉ storedAddrs (.staAbs 0xFFFF) State.reset ∧
    (0xFFFF : Addr) ∈ storedAddrs (.staAbs 0xFFFF) State.reset ∧ (0x01FD : Addr) ∉ storedAddrs (.jsr 0x0000) State.reset ∧
    storedAddrs (.jsr 0x0000) State.reset = [0x01FF, 0x01FE] ∧ storedAddrs .nop State.reset = [] := by decide

/-- `StackAccessesStayInPageOne`: a push at each end of the stack page changes a byte. -/
theorem witness_StackAccessesStayInPageOne :
    ∃ t u, exec .pha { State.reset with a := 0x42 } = .next t ∧ t.memRead 0x01FF ≠ 0x00 ∧
      exec .pha { State.reset with a := 0x42, sp := 0x00 } = .next u ∧ u.memRead 0x0100 ≠ 0x00 :=
  ⟨_, _, rfl, by decide, rfl, by decide⟩

/-- `StackAccessesStayInPageOne`, its last clause: a memory unlike the reset memory on both sides of the page, and like it
in the page; the three instructions that pull complete. -/
theorem witness_StackAccessesStayInPageOne_pull :
    (∀ addr : Addr, 0x0100 ≤ addr.toNat → addr.toNat ≤ 0x01FF →
      { State.reset with mem := [(0x00FF, 0x01), (0x0200, 0x02)] }.memRead addr = State.reset.memRead addr) ∧
    { State.reset with mem := [(0x00FF, 0x01), (0x0200, 0x02)] }.memRead 0x00FF ≠ State.reset.memRead 0x00FF ∧
    ∃ t u w, exec .pla State.reset = .next t ∧ exec .plp State.reset = .next u ∧ exec .rts State.reset = .next w := by
  refine ⟨fun addr hlo hhi => ?_, by decide, _, _, _, rfl, rfl, rfl⟩
  show Memory.read [(0x00FF, 0x01), (0x0200, 0x02)] addr.toNat = Memory.read [] addr.toNat
  simp only [Memory.read]
  rw [if_neg (by omega), if_neg (by omega)]

/-- The lists of forms the family statements run over are the table's: their lengths (R83). -/
theorem witness_forms :
    ([oraForms, andForms, eorForms, cmpForms, cpxForms, cpyForms, ldaForms, ldxForms, ldyForms].map
      fun f => (f 0x80 0xFF 0xFF 0xFF).length) = [8, 8, 8, 8, 3, 3, 8, 5, 5] ∧
    ([bitForms, aslForms, lsrForms, rolForms, rorForms, staForms, stxForms, styForms].map
      fun f => (f 0xFF 0xFF 0xFF).length) = [2, 4, 4, 4, 4, 7, 3, 3] ∧ (sloEncodings 0xFF 0xFF 0xFF).length = 7 ∧
    (branches 0x80 noFlags).length = 8 ∧ (flagInstrs noFlags).length = 7 := by decide

/-- `RightShiftsAndRotates`: the two forms of each kind, completing. -/
theorem witness_RightShiftsAndRotates :
    Instr.lsrZp 0xFF ∈ (lsrForms 0xFF 0x00 0x00).map MemForm.instr ∧
    Instr.rorAbsx 0xFFFF ∈ (rorForms 0x00 0xFF 0xFF).map MemForm.instr ∧
    ∃ t u, exec (.lsrZp 0xFF) State.reset = .next t ∧ exec (.rorAbsx 0xFFFF) State.reset = .next u :=
  ⟨by decide, by decide, _, _, rfl, rfl⟩

/-- `BranchesAddTheSignedOffset`: each branch with its condition true and with it false. -/
theorem witness_BranchesAddTheSignedOffset :
    (branches 0x7F noFlags).map (fun f => f.2.2) = [true, false, true, false, true, false, true, false] ∧
    (branches 0x80 ⟨true, true, true, true, true, true, true⟩).map (fun f => f.2.2) =
      [false, true, false, true, false, true, false, true] := by decide

/-- `JamHaltsWithoutAdvancing`: the parameter, and a running core that fetches JAM. -/
theorem witness_JamHaltsWithoutAdvancing :
    jam12.jamOpcode = some .h12 ∧ (launch 0x0700 [0x12] [] State.reset).jammed = false ∧
    (launch 0x0700 [0x12] [] State.reset).fetch jam12 = some .jam := by decide

/-- `SloShiftsMemoryThenOrsIntoA`: a form and the parameter that selects it. -/
theorem witness_SloShiftsMemoryThenOrsIntoA :
    ([0x07, 0xFF], SloOperand.zp 0xFF) ∈ sloEncodings 0xFF 0x00 0x00 ∧
    sloZp.sloOpcode = some (SloOperand.zp 0xFF).form := by decide

/-- `RtsResumesAfterJsr`: the state right after the JSR is such a state, at both ends of SP. -/
theorem witness_RtsResumesAfterJsr : ∀ sp ∈ [(0x00 : Byte), 0x01, 0xFF], ∃ t u : State,
    { State.reset with sp := sp }.Inv ∧ exec (.jsr 0x1234) { State.reset with sp := sp } = .next t ∧ u.sp = t.sp ∧
    u.memRead (stackAddr sp) = t.memRead (stackAddr sp) ∧ u.memRead (stackAddr (sp - 1)) = t.memRead (stackAddr (sp - 1)) :=
  fun _ _ => ⟨_, _, rfl, rfl, rfl, rfl, rfl⟩

/-- `StepRunsTheDecodedInstruction`: a core that runs, at whose PC, the top of memory, the bytes of an instruction stand. -/
theorem witness_StepRunsTheDecodedInstruction :
    (launch 0xFFFF [0xA9, 0x42] [] State.reset).jammed = false ∧ BytesAt (launch 0xFFFF [0xA9, 0x42] [] State.reset) [0xA9, 0x42] ∧
    decode coreConfig [0xA9, 0x42] = .ok (.ldaImm 0x42) :=
  ⟨by decide, by show ∀ k, (h : k < 2) → _; decide, rfl⟩

/-- `PlacedWordIsTheNextInstruction`. -/
theorem witness_PlacedWordIsTheNextInstruction :
    State.reset.Inv ∧ decodeTableWord 24 0xFFFF8D = some (.staAbs 0xFFFF) := by decide

/-- `StepCallFollowsTheAlgorithm`, `EveryHandlerCompletes`, `UnmappedOpcodeFaultsAndChangesNothing`: a jammed core, a running
core at an unmapped byte, a running core at a mapped byte. -/
theorem witness_StepCallFollowsTheAlgorithm :
    { State.reset with jammed := true }.jammed = true ∧ State.reset.jammed = false ∧
    (lookup plain ((launch 0x0600 [0x02] [] State.reset).memRead 0x0600)).isNone = true ∧
    (lookup plain (State.reset.memRead State.reset.pc)).isSome = true := by decide

/-- `JammedCoreTakesNoStep` and `JammedIsMonotoneUntilReset`: a jammed core, and a JAM that makes one. -/
theorem witness_JammedCoreTakesNoStep :
    { State.reset with jammed := true }.jammed = true ∧ ∃ t, exec .jam State.reset = .next t ∧ t.jammed = true :=
  ⟨rfl, _, rfl, rfl⟩

/-- `RunLoopStepsUntilJammedOrFault`: a step that answers Ok, and one that answers UnknownOpcode. -/
theorem witness_RunLoopStepsUntilJammedOrFault :
    State.reset.jammed = false ∧ (stepCall plain State.reset).2 = .ok ∧
    (stepCall plain (launch 0x0600 [0x02] [] State.reset)).2 = .unknownOpcode 0x02 := by decide

/-- `BrkDoesNotStopTheRun`: reset memory is a run of BRKs (vector RS2). -/
theorem witness_BrkDoesNotStopTheRun : State.reset.jammed = false ∧ State.reset.fetch plain = some .brk := by decide

/-- `RunEndsAtAJamOrAnUnmappedByte` and `MoreFuelKeepsTheEnding`: a run of each ending. -/
theorem witness_RunEndsAtAJamOrAnUnmappedByte :
    (runCall jam12 1 (launch 0x0700 [0x12] [] State.reset)).2 = .jammed ∧
    (runCall plain 1 (launch 0x0700 [0x12] [] State.reset)).2 = .unknownOpcode 0x12 ∧
    (runCall plain 2 State.reset).2 = .noResultYet := by decide

/-- `StoredOpcodeIsTheOneFetched`: the store that writes the next instruction answers a next state (vector LS15). -/
theorem witness_StoredOpcodeIsTheOneFetched :
    ∃ t, exec (.staAbs 0x0603) { State.reset with pc := 0x0600, a := 0xE8 } = .next t ∧ t.fetch plain = some .inx :=
  ⟨_, rfl, by decide⟩

end Sys2Proof.Tests
end

section
/-! SUPPORT. The flags' operations, in the vocabulary of the statements, and the statements about the state. -/

namespace Sys2Proof.Machine

open Sys2Proof.Claims

/-- What `setZN` leaves in Z and N, as numbers say it (10_state R31). -/
theorem Flags.setZN_znFrom (p : Flags) (v : Byte) : ZNFrom v (p.setZN v) :=
  ⟨beq_zero_iff v, bit_seven_iff v⟩

/-- The frame of `setZN`: with Z and N set aside, the flags are those of before. -/
theorem Flags.setZN_frame (p : Flags) (v : Byte) :
    p.setZN v = { p with z := (p.setZN v).z, n := (p.setZN v).n } := rfl

/-- Settles O12: Z and N are read off the byte by `beq_zero_iff` and `bit_seven_iff`, and the rest is the frame. -/
theorem setZNOverwritesZAndN : Obligations.SetZNOverwritesZAndN :=
  fun p v => ⟨p.setZN_znFrom v, p.setZN_frame v⟩

end Sys2Proof.Machine
end

section
/-! SUPPORT. The dispatch table, byte by byte: what `lookup` and `tableEntry` answer, the opcode bytes as lists, and the
statements about the table (30_encoding R83 to R87, 60_exceptions R164). -/

namespace Sys2Proof

open Sys2Proof.Claims Sys2Proof.Machine

/-! The fixed entries -/

/-- An entry as the map of R83 lists it: mnemonic, mode, byte. -/
def Row.mapEntry (r : Row) : Mnemonic × Mode × Byte := (r.mnemonic, r.mode, r.opcode)

set_option maxRecDepth 4000 in
/-- The table and the map of R83 hold the same entries, ordered by byte in one and by mnemonic in the other. -/
theorem opcodeTable_perm_opcodeMap : (opcodeTable.map Row.mapEntry).Perm opcodeMap := by decide

/-- A triple is in the map exactly when a fixed row lists it. -/
theorem mem_opcodeMap_iff (m : Mnemonic) (md : Mode) (op : Byte) :
    (m, md, op) ∈ opcodeMap ↔ ∃ r ∈ opcodeTable, r.mnemonic = m ∧ r.mode = md ∧ r.opcode = op := by
  simp [← opcodeTable_perm_opcodeMap.mem_iff, Row.mapEntry]

/-- A fixed row is the entry of its own byte, whatever the parameters: no other row has that byte. -/
theorem lookup_of_mem_opcodeTable (cfg : Config) {r : Row} (hr : r ∈ opcodeTable) : lookup cfg r.opcode = some r := by
  obtain ⟨r', hfind⟩ : ∃ r', (opcodeTable.find? fun q => q.opcode == r.opcode) = some r' :=
    Option.isSome_iff_exists.1 (List.find?_isSome.2 ⟨r, hr, beq_self_eq_true _⟩)
  have hop : r'.opcode = r.opcode := beq_iff_eq.1 (List.find?_some hfind :)
  have heq : r' = r := List.inj_on_of_nodup_map opcodeTable_nodup (List.mem_of_find?_eq_some hfind) hr hop
  exact lookup_of_find (heq ▸ hfind) cfg

/-! The entry of a byte -/

/-- The three ways a byte can have an entry, each of which gives it (the converse is `lookup_cases`). -/
theorem lookup_eq_some_iff {cfg : Config} {op : Byte} {r : Row} :
    lookup cfg op = some r ↔
      (r ∈ opcodeTable ∧ r.opcode = op) ∨
      (∃ j, cfg.jamOpcode = some j ∧ op = j.byte ∧ r = jamRow j) ∨
      (∃ f, cfg.sloOpcode = some f ∧ op = f.byte ∧ r = sloRow f) := by
  refine ⟨lookup_cases, ?_⟩
  rintro (⟨hr, rfl⟩ | ⟨j, hj, rfl, rfl⟩ | ⟨f, hf, rfl, rfl⟩)
  · exact lookup_of_mem_opcodeTable cfg hr
  · rw [lookup_jamByte, if_pos hj]
  · rw [lookup_sloForm, if_pos hf]

/-- What the disassembler reads of a byte is the mnemonic and the mode of its entry. -/
theorem tableEntry_eq_some_iff {cfg : Config} {op : Byte} {m : Mnemonic} {md : Mode} :
    tableEntry cfg op = some (m, md) ↔ ∃ r, lookup cfg op = some r ∧ r.mnemonic = m ∧ r.mode = md := by
  simp [tableEntry]

@[simp] theorem jamRow_mnemonic (j : JamByte) : (jamRow j).mnemonic = .jam := rfl
@[simp] theorem jamRow_mode (j : JamByte) : (jamRow j).mode = .imp := rfl
@[simp] theorem jamRow_length (j : JamByte) : (jamRow j).length = 1 := rfl
@[simp] theorem sloRow_mnemonic (f : SloForm) : (sloRow f).mnemonic = .slo := by cases f <;> rfl
@[simp] theorem sloRow_mode (f : SloForm) : (sloRow f).mode = f.mode := by cases f <;> rfl
@[simp] theorem sloRow_length (f : SloForm) : (sloRow f).length = 1 + f.mode.operandBytes := by cases f <;> rfl

/-- The table, entry by entry: the map of R83 and the two parameter entries. -/
theorem tableEntry_iff_opcodeMap_or_parameter (cfg : Config) (op : Byte) (m : Mnemonic) (md : Mode) :
    tableEntry cfg op = some (m, md) ↔
      (m, md, op) ∈ opcodeMap ∨
      (∃ j, cfg.jamOpcode = some j ∧ op = j.byte ∧ m = .jam ∧ md = .imp) ∨
      (∃ f, cfg.sloOpcode = some f ∧ op = f.byte ∧ m = .slo ∧ md = f.mode) := by
  rw [tableEntry_eq_some_iff, mem_opcodeMap_iff]
  constructor
  · rintro ⟨r, hr, rfl, rfl⟩
    obtain ⟨hmem, hop⟩ | ⟨j, hj, hop, rfl⟩ | ⟨f, hf, hop, rfl⟩ := lookup_eq_some_iff.1 hr
    · exact .inl ⟨r, hmem, rfl, rfl, hop⟩
    · exact .inr (.inl ⟨j, hj, hop, rfl, rfl⟩)
    · exact .inr (.inr ⟨f, hf, hop, sloRow_mnemonic f, sloRow_mode f⟩)
  · rintro (⟨r, hmem, hm, hmd, hop⟩ | ⟨j, hj, hop, rfl, rfl⟩ | ⟨f, hf, hop, rfl, rfl⟩)
    · exact ⟨r, lookup_eq_some_iff.2 (.inl ⟨hmem, hop⟩), hm, hmd⟩
    · exact ⟨jamRow j, lookup_eq_some_iff.2 (.inr (.inl ⟨j, hj, hop, rfl⟩)), rfl, rfl⟩
    · exact ⟨sloRow f, lookup_eq_some_iff.2 (.inr (.inr ⟨f, hf, hop, rfl⟩)), sloRow_mnemonic f, sloRow_mode f⟩

/-- Settles O4: the table and the map are permutations of each other, and a byte's entry is a fixed row, JAM's or SLO's. -/
theorem tableIsExactlyTheOpcodeMap : Obligations.TableIsExactlyTheOpcodeMap :=
  ⟨rfl, tableEntry_iff_opcodeMap_or_parameter⟩

/-! The two parameter entries -/

set_option maxRecDepth 4000 in
/-- No fixed entry is JAM or SLO. -/
theorem opcodeMap_mnemonic_ne : ∀ e ∈ opcodeMap, e.1 ≠ .jam ∧ e.1 ≠ .slo := by decide

/-- A byte is JAM exactly when it is JAM_OPCODE (R86). -/
theorem tableEntry_jam_iff {cfg : Config} {op : Byte} {md : Mode} :
    tableEntry cfg op = some (.jam, md) ↔ (∃ j, cfg.jamOpcode = some j ∧ op = j.byte) ∧ md = .imp := by
  have hfixed : (Mnemonic.jam, md, op) ∉ opcodeMap := fun h => (opcodeMap_mnemonic_ne _ h).1 rfl
  simp [tableEntry_iff_opcodeMap_or_parameter, hfixed, ← and_assoc]

/-- A byte is SLO in a mode exactly when SLO_OPCODE is that byte in that mode (R87). -/
theorem tableEntry_slo_iff {cfg : Config} {op : Byte} {md : Mode} :
    tableEntry cfg op = some (.slo, md) ↔ ∃ f, cfg.sloOpcode = some f ∧ op = f.byte ∧ md = f.mode := by
  have hfixed : (Mnemonic.slo, md, op) ∉ opcodeMap := fun h => (opcodeMap_mnemonic_ne _ h).2 rfl
  simp [tableEntry_iff_opcodeMap_or_parameter, hfixed]

/-- The length of the JAM entry (R86). -/
theorem opcodeLength_jamByte {cfg : Config} {j : JamByte} (h : cfg.jamOpcode = some j) :
    opcodeLength cfg j.byte = some 1 := by
  simp [opcodeLength, lookup_jamByte, h]

/-- The length of an SLO entry is that of its mode (R87). -/
theorem opcodeLength_of_slo {cfg : Config} {op : Byte} {md : Mode} (h : tableEntry cfg op = some (.slo, md)) :
    opcodeLength cfg op = some (1 + md.operandBytes) := by
  obtain ⟨f, hf, rfl, rfl⟩ := tableEntry_slo_iff.1 h
  simp [opcodeLength, lookup_sloForm, hf]

/-- 0x02 is no candidate of JAM_OPCODE (R9, R84). -/
theorem JamByte.byte_ne_two (j : JamByte) : j.byte ≠ 0x02 := by cases j <;> decide

/-- JAM leaves PC at its opcode (R161). -/
theorem exec_jam_pc {s t : State} (h : exec .jam s = .next t) : t.pc = s.pc := by
  cases h
  rfl

/-- Settles O5: a byte with either mnemonic has the parameter's entry, since no fixed entry has it. -/
theorem parameterBytesAreJamAndSlo : Obligations.ParameterBytesAreJamAndSlo := by
  intro cfg op
  refine ⟨by simp [tableEntry_jam_iff], ?_, fun _ => tableEntry_slo_iff, ?_, ?_, ?_, ?_, fun _ _ => exec_jam_pc⟩
  · rintro ⟨md, h⟩
    obtain ⟨⟨j, hj, rfl⟩, -⟩ := tableEntry_jam_iff.1 h
    exact ⟨opcodeLength_jamByte hj, j.byte_ne_two⟩
  · intro md h hmd
    have hbytes : ∀ md ∈ [Mode.zp, .zpx, .indx, .indy], md.operandBytes = 1 := by decide
    rw [opcodeLength_of_slo h, hbytes md hmd]
  · intro md h hmd
    have hbytes : ∀ md ∈ [Mode.abs, .absx, .absy], md.operandBytes = 2 := by decide
    rw [opcodeLength_of_slo h, hbytes md hmd]
  · intro hnone j
    simp [lookup_jamByte, hnone]
  · intro hnone f
    simp [lookup_sloForm, hnone]

/-! The unmapped bytes -/

/-- Every byte that some choice of the parameters maps: the fixed bytes and the candidates (R83, R86, R87). -/
def mappableBytes : List Byte :=
  opcodeTable.map Row.opcode ++ jamBytes.map JamByte.byte ++ sloForms.map SloForm.byte

theorem mem_jamBytes (j : JamByte) : j ∈ jamBytes := by cases j <;> decide

theorem mem_sloForms (f : SloForm) : f ∈ sloForms := by cases f <;> decide

/-- A byte with an entry is one of them. -/
theorem mem_mappableBytes_of_lookup {cfg : Config} {op : Byte} {r : Row} (h : lookup cfg op = some r) :
    op ∈ mappableBytes := by
  simp only [mappableBytes, List.mem_append, List.mem_map]
  obtain ⟨hr, rfl⟩ | ⟨j, -, rfl, -⟩ | ⟨f, -, rfl, -⟩ := lookup_cases h
  · exact .inl (.inl ⟨r, hr, rfl⟩)
  · exact .inl (.inr ⟨j, mem_jamBytes j, rfl⟩)
  · exact .inr ⟨f, mem_sloForms f, rfl⟩

/-- Every other byte is unmapped whatever the parameters (R84). -/
theorem lookup_eq_none_of_not_mem (cfg : Config) {op : Byte} (h : op ∉ mappableBytes) : lookup cfg op = none :=
  Option.eq_none_iff_forall_ne_some.2 fun _ hr => h (mem_mappableBytes_of_lookup hr)

/-- Without the parameter entries exactly the bytes outside the fixed entries are unmapped (R84). -/
theorem lookup_plain_eq_none_iff {cfg : Config} (hj : cfg.jamOpcode = none) (hs : cfg.sloOpcode = none) (op : Byte) :
    lookup cfg op = none ↔ op ∉ opcodeTable.map Row.opcode := by
  simp [Option.eq_none_iff_forall_ne_some, lookup_eq_some_iff, hj, hs]

/-- The numbers of the fixed entries' bytes. -/
def opcodeNumbers : List Nat := opcodeTable.map fun r => r.opcode.toNat

theorem opcodeNumbers_length : opcodeNumbers.length = 126 := List.length_map _

theorem opcodeNumbers_nodup : opcodeNumbers.Nodup := by
  simpa [opcodeNumbers, Function.comp_def] using opcodeTable_nodup.map BitVec.toNat_injective

theorem opcodeNumbers_subset_range : opcodeNumbers ⊆ List.range 256 := fun n hn => by
  obtain ⟨r, -, rfl⟩ := List.mem_map.1 hn
  exact List.mem_range.2 r.opcode.isLt

/-- A number below 256 is its own byte's. -/
theorem ofNat_mem_opcodes_iff {n : Nat} (hn : n < 256) :
    BitVec.ofNat 8 n ∈ opcodeTable.map Row.opcode ↔ n ∈ opcodeNumbers := by
  have hbyte : ∀ b : Byte, b = BitVec.ofNat 8 n ↔ b.toNat = n := fun b => by
    rw [← BitVec.toNat_inj, BitVec.toNat_ofNat, Nat.mod_eq_of_lt hn]
  simp only [opcodeNumbers, List.mem_map, hbyte]

/-- Without the parameter entries the unmapped bytes are 0 to 255 with the fixed entries' taken out. -/
theorem unmapped_plain_eq_diff {cfg : Config} (hj : cfg.jamOpcode = none) (hs : cfg.sloOpcode = none) :
    ((List.range 256).filter fun n => (lookup cfg (BitVec.ofNat 8 n)).isNone) = (List.range 256).diff opcodeNumbers := by
  rw [List.nodup_range.sdiff_eq_filter]
  refine List.filter_congr fun n hn => ?_
  rw [Bool.eq_iff_iff, Option.isNone_iff_eq_none, lookup_plain_eq_none_iff hj hs,
    ofNat_mem_opcodes_iff (List.mem_range.1 hn), decide_eq_true_iff]

/-- Of the 256 bytes 126 have fixed entries, no two of which share a byte (R84). -/
theorem length_unmapped_plain {cfg : Config} (hj : cfg.jamOpcode = none) (hs : cfg.sloOpcode = none) :
    ((List.range 256).filter fun n => (lookup cfg (BitVec.ofNat 8 n)).isNone).length = 130 := by
  have hcount := List.subperm_ext_iff.1 (opcodeNumbers_nodup.subperm opcodeNumbers_subset_range)
  have hsplit := (List.subperm_append_diff_self_of_count_le hcount).length_eq
  rw [List.length_append, opcodeNumbers_length, List.length_range] at hsplit
  rw [unmapped_plain_eq_diff hj hs]
  omega

set_option maxRecDepth 4000 in
/-- Settles O6: none of the listed bytes is a fixed entry or a candidate byte. -/
theorem absentInstructionsAreUnmapped : Obligations.AbsentInstructionsAreUnmapped := by
  intro cfg op hop
  have hoff : op ∉ mappableBytes := by revert op; decide
  exact lookup_eq_none_of_not_mem cfg hoff

/-- At an unmapped byte there is no instruction to fetch, whatever bytes follow it. -/
theorem fetch_eq_none_of_unmapped {cfg : Config} {s : State} (h : lookup cfg (s.memRead s.pc) = none) :
    s.fetch cfg = none := by
  simp [State.fetch, decodeBytes, h]

/-- `step()` at an unmapped byte answers with the byte and leaves the state (R164, D17). -/
theorem stepCall_unmapped {cfg : Config} {s : State} (hj : s.jammed = false)
    (h : lookup cfg (s.memRead s.pc) = none) : stepCall cfg s = (s, .unknownOpcode (s.memRead s.pc)) := by
  rw [stepCall, stepWith_unmapped hj (fetch_eq_none_of_unmapped h)]

/-- Settles O50: the state is unchanged, so the second call of `step()` is the first again. -/
theorem unmappedOpcodeFaultsAndChangesNothing : Obligations.UnmappedOpcodeFaultsAndChangesNothing := by
  refine ⟨fun cfg => lookup_eq_none_of_not_mem cfg (by decide), length_unmapped_plain rfl rfl, ?_⟩
  intro cfg s hj hnone
  have hcall := stepCall_unmapped hj hnone
  exact ⟨stepWith_unmapped hj (fetch_eq_none_of_unmapped hnone), by rw [hcall], by rw [hcall, hcall]⟩

end Sys2Proof
end

section
/-! SUPPORT. The effective addresses of the eight memory operands, as numbers, and the statements about them
(30_encoding R70 to R78). -/

namespace Sys2Proof.Machine

open Sys2Proof.Claims

theorem zeroPage_toNat (b : Byte) : (zeroPage b).toNat = b.toNat := zext16_toNat b

/-- An address in the zero page is the one its number names. -/
theorem eq_zeroPage_of_toNat_eq {addr : Addr} {b : Byte} (h : addr.toNat = b.toNat) : addr = zeroPage b :=
  BitVec.eq_of_toNat_eq (h.trans (zeroPage_toNat b).symm)

theorem State.effAddr_zp_toNat (s : State) (b : Byte) : (s.effAddr (.zp b)).toNat = b.toNat := zeroPage_toNat b

theorem State.effAddr_zpx_toNat (s : State) (b : Byte) :
    (s.effAddr (.zpx b)).toNat = (b.toNat + s.x.toNat) % 256 := by
  rw [State.effAddr, zeroPage_toNat, BitVec.toNat_add]

theorem State.effAddr_zpy_toNat (s : State) (b : Byte) :
    (s.effAddr (.zpy b)).toNat = (b.toNat + s.y.toNat) % 256 := by
  rw [State.effAddr, zeroPage_toNat, BitVec.toNat_add]

/-- An address and an index register, added at 16 bits (R74, R75, R78). -/
theorem add_zext16_toNat (a : Addr) (r : Byte) : (a + zext16 r).toNat = (a.toNat + r.toNat) % 65536 := by
  rw [BitVec.toNat_add, zext16_toNat]

/-- A zero-page pointer as its two bytes say it (R77, R78; D7). -/
theorem State.zeroPagePointer_toNat (s : State) {p : Byte} {lo hi : Addr} (hlo : lo.toNat = p.toNat)
    (hhi : hi.toNat = (p.toNat + 1) % 256) :
    (s.zeroPagePointer p).toNat = (s.memRead hi).toNat * 256 + (s.memRead lo).toNat := by
  have hnext : hi = zeroPage (p + 1) := eq_zeroPage_of_toNat_eq (hhi.trans (BitVec.toNat_add p 1).symm)
  rw [State.zeroPagePointer, hiLo_toNat, eq_zeroPage_of_toNat_eq hlo, hnext]

/-- No form of SLO has the mode ZPY (R87). -/
theorem sloMode_ne_zpy (f : SloForm) : f.mode ≠ .zpy := by cases f <;> decide

set_option maxRecDepth 4000 in
/-- In the map of R83 only LDX and STX have the mode ZPY (R72). -/
theorem opcodeMap_zpy : ∀ e ∈ opcodeMap, e.2.1 = .zpy → e.1 = .ldx ∨ e.1 = .stx := by decide

/-- No parameter entry has the mode ZPY, so LDX and STX are all that have it (R72). -/
theorem tableEntry_zpy {cfg : Config} {op : Byte} {m : Mnemonic} (h : tableEntry cfg op = some (m, .zpy)) :
    m = .ldx ∨ m = .stx := by
  obtain hmap | ⟨_, -, -, -, hmode⟩ | ⟨f, -, -, -, hmode⟩ := (tableEntry_iff_opcodeMap_or_parameter ..).1 h
  · exact opcodeMap_zpy _ hmap rfl
  · cases hmode
  · exact absurd hmode.symm (sloMode_ne_zpy f)

/-- Settles O8: the sum is taken on bytes before it is extended, so it wraps at 8 bits. -/
theorem zeroPageFormsWrapAtEightBits : Obligations.ZeroPageFormsWrapAtEightBits :=
  fun b s => ⟨s.effAddr_zp_toNat b, s.effAddr_zpx_toNat b, s.effAddr_zpy_toNat b, rfl, rfl, rfl,
    fun _ _ _ => tableEntry_zpy⟩

/-- Settles O9: the index is extended before the sum is taken, so it wraps at 16 bits. -/
theorem absoluteFormsWrapAtSixteenBits : Obligations.AbsoluteFormsWrapAtSixteenBits := by
  intro lo hi s
  refine ⟨hiLo_toNat hi lo, ?_, ?_, rfl, rfl, rfl⟩
  · rw [State.effAddr, add_zext16_toNat, hiLo_toNat]
  · rw [State.effAddr, add_zext16_toNat, hiLo_toNat]

/-- Settles O10: both forms read a zero-page pointer, INDX at the 8-bit sum, and INDY indexes what it reads. -/
theorem pointerFormsReadTheZeroPage : Obligations.PointerFormsReadTheZeroPage := by
  intro b s lo hi
  refine ⟨fun hlo hhi => ?_, fun hlo hhi => ?_, rfl, rfl⟩
  · have hsum : (b + s.x).toNat = (b.toNat + s.x.toNat) % 256 := BitVec.toNat_add b s.x
    exact s.zeroPagePointer_toNat (p := b + s.x) (by omega) (by omega)
  · rw [State.effAddr, add_zext16_toNat, s.zeroPagePointer_toNat hlo hhi]

end Sys2Proof.Machine
end

section
/-! SUPPORT. The execution loop: every handler completes, what `step()` and `run()` answer in each case, and the statements
about them (40_execution_loop R96 to R102). -/

namespace Sys2Proof.Machine

open Sys2Proof.Claims

/-! The handler of a table entry -/

set_option maxRecDepth 4000 in
/-- The fixed entries name the instruction they build, whatever the operand bytes: the names, as functions of the two
bytes after the opcode, are constant. -/
theorem opcodeTable_map_names :
    (opcodeTable.map fun r => fun b1 b2 => ((r.shape.build b1 b2).mnemonic, (r.shape.build b1 b2).mode)) =
      opcodeTable.map fun r => fun _ _ => (r.mnemonic, r.mode) := rfl

/-- A mapped byte's entry names the instruction it builds (R93). -/
theorem lookup_build_names {cfg : Config} {op : Byte} {r : Row} (h : lookup cfg op = some r) (b1 b2 : Byte) :
    ((r.shape.build b1 b2).mnemonic, (r.shape.build b1 b2).mode) = (r.mnemonic, r.mode) := by
  obtain ⟨hr, -⟩ | ⟨j, -, -, rfl⟩ | ⟨f, -, -, rfl⟩ := lookup_cases h
  · exact congrFun₂ (List.map_inj_left.1 opcodeTable_map_names r hr) b1 b2
  · rfl
  · cases f <;> rfl

/-- At a mapped byte the fetch gives an instruction, and it is the entry's. -/
theorem fetch_eq_some_of_lookup {cfg : Config} {s : State} {r : Row} (h : lookup cfg (s.memRead s.pc) = some r) :
    ∃ i, s.fetch cfg = some i ∧ (i.mnemonic, i.mode) = (r.mnemonic, r.mode) :=
  ⟨_, by rw [State.fetch, decodeBytes, h, Option.map_some], lookup_build_names h _ _⟩

/-! Every handler completes -/

/-- A handler has no way to fail: each arm of `exec` is a next state (R99). -/
theorem exec_completes (i : Instr) (s : State) : ∃ t, exec i s = .next t := by
  cases i <;> exact ⟨_, rfl⟩

/-- Nor under given parameters: they change the target of an indirect JMP and no other instruction (R9, D6). -/
theorem execWith_completes (cfg : Config) (i : Instr) (s : State) : ∃ t, execWith cfg i s = .next t := by
  unfold execWith
  split
  · exact ⟨_, rfl⟩
  · exact exec_completes _ s

/-! What `step()` answers -/

theorem stepCall_jammed (cfg : Config) {s : State} (h : s.jammed = true) : stepCall cfg s = (s, .ok) := by
  rw [stepCall, stepWith_jammed cfg h]

theorem stepCall_of_next {cfg : Config} {s t : State} (h : stepWith cfg s = .next t) : stepCall cfg s = (t, .ok) := by
  rw [stepCall, h]

/-- On a running core that fetches an instruction, `step()` answers what its handler does. -/
theorem stepCall_of_fetch {cfg : Config} {s t : State} {i : Instr} (hj : s.jammed = false)
    (hi : s.fetch cfg = some i) (ht : execWith cfg i s = .next t) : stepCall cfg s = (t, .ok) :=
  stepCall_of_next ((stepWith_mapped hj hi).trans ht)

/-- Settles O48: the handler of an entry completes, so what is left is the byte without one. -/
theorem everyHandlerCompletes : Obligations.EveryHandlerCompletes := by
  refine ⟨fun cfg i s => ⟨execWith_completes cfg i s, exec_completes i s⟩, fun cfg s hj => ?_⟩
  cases h : lookup cfg (s.memRead s.pc) with
  | none => exact .inr ⟨rfl, stepCall_unmapped hj h⟩
  | some r =>
    obtain ⟨i, hi, -⟩ := fetch_eq_some_of_lookup h
    obtain ⟨t, ht⟩ := execWith_completes cfg i s
    exact .inl ⟨t, (stepWith_mapped hj hi).trans ht⟩

/-- Settles O49: at a mapped byte the fetched instruction is the entry's, and its handler completes. -/
theorem stepCallFollowsTheAlgorithm : Obligations.StepCallFollowsTheAlgorithm := by
  refine fun cfg s => ⟨stepCall_jammed cfg, stepCall_unmapped, fun hj r hr => ?_⟩
  obtain ⟨i, hi, hnames⟩ := fetch_eq_some_of_lookup hr
  obtain ⟨t, ht⟩ := execWith_completes cfg i s
  exact ⟨i, t, hi, hnames, ht, stepCall_of_fetch hj hi ht⟩

/-! What `run()` answers -/

theorem runCall_jammed (cfg : Config) (fuel : Nat) {s : State} (h : s.jammed = true) :
    runCall cfg fuel s = (s, .jammed) := by
  cases fuel <;> rw [runCall, if_pos h]

/-- After a step that answers Ok the run goes on from the state it left. -/
theorem runCall_succ_of_ok {cfg : Config} {s t : State} (hj : s.jammed = false) (h : stepCall cfg s = (t, .ok))
    (fuel : Nat) : runCall cfg (fuel + 1) s = runCall cfg fuel t := by
  rw [runCall, h, if_neg (Bool.eq_false_iff.1 hj)]

/-- A step that answers UnknownOpcode ends the run. -/
theorem runCall_succ_of_unknownOpcode {cfg : Config} {s t : State} {op : Byte} (hj : s.jammed = false)
    (h : stepCall cfg s = (t, .unknownOpcode op)) (fuel : Nat) :
    runCall cfg (fuel + 1) s = (t, .unknownOpcode op) := by
  rw [runCall, h, if_neg (Bool.eq_false_iff.1 hj)]

/-- BRK sets B and I and moves PC by 2, under any parameters (R159). -/
theorem execWith_brk (cfg : Config) (s : State) :
    execWith cfg .brk s = .next ({ s with flags := { s.flags with b := true, i := true } }.advance 2) := rfl

/-- Settles O54: BRK's handler leaves `jammed` clear, and so the loop has nothing to stop on. -/
theorem brkDoesNotStopTheRun : Obligations.BrkDoesNotStopTheRun := by
  intro cfg s hj hi
  have hcall := stepCall_of_fetch hj hi (execWith_brk cfg s)
  exact ⟨_, hcall, State.advance_pc_toNat _ 2, rfl, hj, runCall_succ_of_ok hj hcall⟩

/-- Settles O51: the loop and the step look at `jammed` before anything else, and the host's setters do not write it. -/
theorem jammedCoreTakesNoStep : Obligations.JammedCoreTakesNoStep :=
  fun cfg s h => ⟨stepWith_jammed cfg h, (step_eq s).trans (stepWith_jammed coreConfig h), stepCall_jammed cfg h,
    fun fuel => runCall_jammed cfg fuel h, fun addr v => (s.memWrite_jammed addr v).trans h,
    fun addr => (s.jump_jammed addr).trans h, rfl⟩

/-- Settles O53: one unrolling of the loop, case by case. -/
theorem runLoopStepsUntilJammedOrFault : Obligations.RunLoopStepsUntilJammedOrFault :=
  fun cfg _ _ fuel => ⟨runCall_jammed cfg fuel, fun hj h => runCall_succ_of_ok hj h fuel,
    fun hj _ h => runCall_succ_of_unknownOpcode hj h fuel⟩

end Sys2Proof.Machine
end

section
/-! SUPPORT. The read-type forms: from what a form's body does to the operand, what the form does when its bytes run; and
the bitwise instructions (41_bitwise R105 to R107). -/

namespace Sys2Proof.Claims

open Sys2Proof.Machine

/-- The form's bytes decode to its instruction and are as many as its operand takes, and what the instruction does from `s`
is `body` of the operand. -/
structure ReadForm.HasBody (cfg : Config) (body : Operand → State → State) (s : State) (f : ReadForm) : Prop where
  decodes : decode cfg f.bytes = .ok f.instr
  length_eq : f.bytes.length = operandLength f.operand
  exec_eq : exec f.instr s = .next (body f.operand s)

/-- A form does what its body does, stated of its operand value and the number of its bytes. -/
theorem ReadForm.HasBody.runs {cfg : Config} {body : Operand → State → State} {s : State} {f : ReadForm}
    (hf : f.HasBody cfg body s) {effect : Byte → Nat → State → Prop}
    (hbody : ∀ o, effect (s.operandValue o) (operandLength o) (body o s)) :
    Runs cfg f.bytes f.instr s (effect (s.operandValue f.operand) f.bytes.length) :=
  ⟨hf.decodes, _, hf.exec_eq, hf.length_eq ▸ hbody f.operand⟩

/-- ORA's eight forms share one body. -/
theorem oraForms_hasBody (cfg : Config) (v b lo hi : Byte) (s : State) :
    ∀ f ∈ oraForms v b lo hi, f.HasBody cfg ora s := by
  intro f hf
  fin_cases hf <;> exact ⟨rfl, rfl, rfl⟩

/-- AND's eight forms share one body. -/
theorem andForms_hasBody (cfg : Config) (v b lo hi : Byte) (s : State) :
    ∀ f ∈ andForms v b lo hi, f.HasBody cfg andA s := by
  intro f hf
  fin_cases hf <;> exact ⟨rfl, rfl, rfl⟩

/-- EOR's eight forms share one body. -/
theorem eorForms_hasBody (cfg : Config) (v b lo hi : Byte) (s : State) :
    ∀ f ∈ eorForms v b lo hi, f.HasBody cfg eor s := by
  intro f hf
  fin_cases hf <;> exact ⟨rfl, rfl, rfl⟩

end Sys2Proof.Claims

namespace Sys2Proof.Machine

open Sys2Proof.Claims

/-- Flags that went through `setZN` differ from those of before in Z and N alone (10_state R31). -/
theorem onlyZN_of_flags_eq_setZN {s t : State} {r : Byte} (h : t.flags = s.flags.setZN r) : OnlyZN r s t := by
  simp [OnlyZN, SameIDBV, h, Flags.setZN_znFrom]

/-- The shared body of ORA, AND and EOR, field by field: A, Z, N and PC are written, and nothing else is. -/
theorem bitwise_effect (op : Byte → Byte → Byte) (o : Operand) (s : State) :
    BitwiseEffect op (s.operandValue o) (operandLength o) s (bitwise op o s) :=
  ⟨rfl, onlyZN_of_flags_eq_setZN rfl, State.advance_pc_toNat _ _, rfl, rfl, rfl, rfl, fun _ => rfl⟩

/-- A form whose body is `bitwise op` combines A with its operand value, by `op`. -/
theorem runs_of_hasBody_bitwise {cfg : Config} {op : Byte → Byte → Byte} {s : State} {f : ReadForm}
    (hf : f.HasBody cfg (bitwise op) s) :
    Runs cfg f.bytes f.instr s (BitwiseEffect op (s.operandValue f.operand) f.bytes.length s) :=
  hf.runs (effect := fun m len => BitwiseEffect op m len s) fun o => bitwise_effect op o s

/-- Settles O24: each of the 24 forms runs `bitwise` on its operand, with OR, AND or XOR. -/
theorem bitwiseInstructionsCombineWithA : Obligations.BitwiseInstructionsCombineWithA := fun cfg v b lo hi s =>
  ⟨fun f hf => runs_of_hasBody_bitwise (oraForms_hasBody cfg v b lo hi s f hf),
    fun f hf => runs_of_hasBody_bitwise (andForms_hasBody cfg v b lo hi s f hf),
    fun f hf => runs_of_hasBody_bitwise (eorForms_hasBody cfg v b lo hi s f hf)⟩

end Sys2Proof.Machine
end

section
/-! SUPPORT. The shifts and rotates (42_shift_rotate R108 to R111): the four operations on a byte, as numbers; what the
accumulator body and the memory body do; the forms that have those bodies. -/

namespace Sys2Proof.Machine

open Sys2Proof.Claims

/-! The four operations on a byte -/

/-- ASL doubles the byte, and the bit it loses is bit 7 (R108). -/
theorem shiftLeft_shiftedLeft (v : Byte) (c : Bool) :
    ShiftedLeft 0 v (shiftLeft v c).result (shiftLeft v c).carry := by
  refine ⟨?_, bit_seven_iff v⟩
  simp [shiftLeft, Nat.shiftLeft_eq]

/-- LSR halves the byte, and the bit it loses is bit 0 (R109). -/
theorem shiftRight_shiftedRight (v : Byte) (c : Bool) :
    ShiftedRight 0 v (shiftRight v c).result (shiftRight v c).carry := by
  refine ⟨?_, bit_zero_iff v⟩
  simp [shiftRight, Nat.shiftRight_eq_div_pow]

/-- The old carry as a byte (R110, R111). -/
theorem carryByte_toNat (c : Bool) : ((BitVec.ofBool c).setWidth 8).toNat = c.toNat := by cases c <;> rfl

/-- ROL is ASL with the old carry in the bit 0 that ASL clears, so that the OR adds it (R110). -/
theorem rotateLeft_shiftedLeft (v : Byte) (c : Bool) :
    ShiftedLeft c.toNat v (rotateLeft v c).result (rotateLeft v c).carry := by
  refine ⟨?_, bit_seven_iff v⟩
  have heven : (v <<< 1).toNat = 2 ^ 1 * (v.toNat % 128) := by
    rw [BitVec.toNat_shiftLeft, Nat.shiftLeft_eq]
    omega
  rw [rotateLeft, BitVec.toNat_or, carryByte_toNat, heven, ← Nat.two_pow_add_eq_or_of_lt c.toNat_lt]
  omega

/-- ROR is LSR with the old carry in the bit 7 that LSR clears, so that the OR adds it (R111). -/
theorem rotateRight_shiftedRight (v : Byte) (c : Bool) :
    ShiftedRight c.toNat v (rotateRight v c).result (rotateRight v c).carry := by
  refine ⟨?_, bit_zero_iff v⟩
  have hlow : v.toNat / 2 < 2 ^ 7 := by omega
  have hhigh : ((BitVec.ofBool c).setWidth 8 <<< 7).toNat = 2 ^ 7 * c.toNat := by cases c <;> rfl
  rw [rotateRight, BitVec.toNat_or, hhigh, BitVec.toNat_ushiftRight, Nat.shiftRight_eq_div_pow, Nat.or_comm,
    ← Nat.two_pow_add_eq_or_of_lt hlow]
  omega

/-- The bit that enters a right shift is bit 7 of the result (R109, R111). -/
theorem bit_seven_of_shiftedRight {high carry : Bool} {v r : Byte} (h : ShiftedRight high.toNat v r carry) :
    bit r 7 = high := by
  obtain ⟨hr, -⟩ := h
  rw [Bool.eq_iff_iff, bit_seven_iff, hr]
  cases high with
  | false =>
    have hlow : v.toNat / 2 < 128 := by omega
    simpa using hlow
  | true => simp

/-! The two bodies -/

/-- The accumulator body, field by field: A, C, Z, N and PC are written, and nothing else is. -/
theorem shiftAcc_effect {rel : Byte → Byte → Bool → Prop} {f : Byte → Bool → Shifted} {s : State}
    (hrel : ∀ v, rel v (f v s.flags.c).result (f v s.flags.c).carry) : ShiftsA rel s (shiftAcc f s) :=
  ⟨hrel s.a, Flags.setZN_znFrom _ _, ⟨rfl, rfl, rfl, rfl⟩, State.advance_pc_toNat _ 1, rfl, rfl, rfl, rfl, fun _ => rfl⟩

/-- On canonical memory, the byte at the operand's address after the memory body is the shifted one. -/
theorem memRead_shiftMem_same {s : State} (hs : s.Inv) (f : Byte → Bool → Shifted) (m : MemOperand) :
    (shiftMem f m s).memRead (s.effAddr m) = (f (s.memRead (s.effAddr m)) s.flags.c).result :=
  State.memRead_memWrite_same hs _ _

/-- The memory body on canonical memory, field by field: the byte, C, Z, N and PC are written, and nothing else is. -/
theorem shiftMem_effect {rel : Byte → Byte → Bool → Prop} {f : Byte → Bool → Shifted} {s : State}
    (hrel : ∀ v, rel v (f v s.flags.c).result (f v s.flags.c).carry) (hs : s.Inv) (m : MemOperand) :
    ShiftsAt rel (s.effAddr m) (memLength m) s (shiftMem f m s) := by
  rw [ShiftsAt, memRead_shiftMem_same hs]
  exact ⟨hrel _, Flags.setZN_znFrom _ _, ⟨rfl, rfl, rfl, rfl⟩, State.advance_pc_toNat _ _, ⟨rfl, rfl, rfl, rfl⟩, rfl,
    fun _ hne => State.memRead_memWrite_other s hne _⟩

end Sys2Proof.Machine

namespace Sys2Proof.Claims

open Sys2Proof.Machine

/-! The forms -/

/-- The form's bytes decode to its instruction and are as many as its operand takes, and what the instruction does from `s`
is `body` of the operand: `ReadForm.HasBody` for a form with a memory operand. -/
structure MemForm.HasBody (cfg : Config) (body : MemOperand → State → State) (s : State) (f : MemForm) : Prop where
  decodes : decode cfg f.bytes = .ok f.instr
  length_eq : f.bytes.length = memLength f.operand
  exec_eq : exec f.instr s = .next (body f.operand s)

/-- A form does what its body does, stated of its effective address and the number of its bytes. -/
theorem MemForm.HasBody.runs {cfg : Config} {body : MemOperand → State → State} {s : State} {f : MemForm}
    (hf : f.HasBody cfg body s) {effect : Addr → Nat → State → Prop}
    (hbody : ∀ m, effect (s.effAddr m) (memLength m) (body m s)) :
    Runs cfg f.bytes f.instr s (effect (s.effAddr f.operand) f.bytes.length) :=
  ⟨hf.decodes, _, hf.exec_eq, hf.length_eq ▸ hbody f.operand⟩

/-- ASL's four memory forms share one body. -/
theorem aslForms_hasBody (cfg : Config) (b lo hi : Byte) (s : State) :
    ∀ f ∈ aslForms b lo hi, f.HasBody cfg (shiftMem shiftLeft) s := by
  intro f hf
  fin_cases hf <;> exact ⟨rfl, rfl, rfl⟩

/-- LSR's four memory forms share one body. -/
theorem lsrForms_hasBody (cfg : Config) (b lo hi : Byte) (s : State) :
    ∀ f ∈ lsrForms b lo hi, f.HasBody cfg (shiftMem shiftRight) s := by
  intro f hf
  fin_cases hf <;> exact ⟨rfl, rfl, rfl⟩

/-- ROL's four memory forms share one body. -/
theorem rolForms_hasBody (cfg : Config) (b lo hi : Byte) (s : State) :
    ∀ f ∈ rolForms b lo hi, f.HasBody cfg (shiftMem rotateLeft) s := by
  intro f hf
  fin_cases hf <;> exact ⟨rfl, rfl, rfl⟩

/-- ROR's four memory forms share one body. -/
theorem rorForms_hasBody (cfg : Config) (b lo hi : Byte) (s : State) :
    ∀ f ∈ rorForms b lo hi, f.HasBody cfg (shiftMem rotateRight) s := by
  intro f hf
  fin_cases hf <;> exact ⟨rfl, rfl, rfl⟩

/-- A mnemonic whose accumulator form has the body `shiftAcc f`, and whose memory forms have `shiftMem f`. -/
structure ShiftBodies (cfg : Config) (f : Byte → Bool → Shifted) (accByte : Byte) (accInstr : Instr)
    (forms : List MemForm) (s : State) : Prop where
  accDecodes : decode cfg [accByte] = .ok accInstr
  accExec : exec accInstr s = .next (shiftAcc f s)
  memBody : ∀ g ∈ forms, g.HasBody cfg (shiftMem f) s

section
variable {cfg : Config} {f : Byte → Bool → Shifted} {accByte : Byte} {accInstr : Instr} {forms : List MemForm} {s : State}

/-- What `f` does to a byte, every form of the mnemonic does to its operand. -/
theorem ShiftBodies.shiftsInEveryForm (h : ShiftBodies cfg f accByte accInstr forms s)
    {rel : State → Byte → Byte → Bool → Prop} (hrel : ∀ v, rel s v (f v s.flags.c).result (f v s.flags.c).carry) :
    ShiftsInEveryForm rel accByte accInstr forms cfg s :=
  ⟨⟨h.accDecodes, _, h.accExec, shiftAcc_effect hrel⟩, fun g hg hs =>
    (h.memBody g hg).runs (effect := fun ea len => ShiftsAt (rel s) ea len s) (shiftMem_effect hrel hs)⟩

/-- Whatever the form, the flags after it are those of some shifted byte. -/
theorem ShiftBodies.flags_eq_shifted (h : ShiftBodies cfg f accByte accInstr forms s) {i : Instr} {t : State}
    (hi : i = accInstr ∨ i ∈ forms.map MemForm.instr) (ht : exec i s = .next t) :
    ∃ v, t.flags = s.flags.shifted (f v s.flags.c) := by
  obtain rfl | hi := hi
  · cases h.accExec.symm.trans ht
    exact ⟨_, rfl⟩
  · obtain ⟨g, hg, rfl⟩ := List.mem_map.1 hi
    cases (h.memBody g hg).exec_eq.symm.trans ht
    exact ⟨_, rfl⟩

/-- After a right shift in any form, N is the bit that entered at the top. -/
theorem ShiftBodies.n_eq_of_shiftedRight (h : ShiftBodies cfg f accByte accInstr forms s) {high : Bool}
    (hrel : ∀ v, ShiftedRight high.toNat v (f v s.flags.c).result (f v s.flags.c).carry) {i : Instr} {t : State}
    (hi : i = accInstr ∨ i ∈ forms.map MemForm.instr) (ht : exec i s = .next t) : t.flags.n = high := by
  obtain ⟨v, hflags⟩ := h.flags_eq_shifted hi ht
  rw [hflags, Flags.shifted_n, bit_seven_of_shiftedRight (hrel v)]
end

theorem asl_shiftBodies (cfg : Config) (b lo hi : Byte) (s : State) :
    ShiftBodies cfg shiftLeft 0x0A .aslAcc (aslForms b lo hi) s := ⟨rfl, rfl, aslForms_hasBody cfg b lo hi s⟩

theorem lsr_shiftBodies (cfg : Config) (b lo hi : Byte) (s : State) :
    ShiftBodies cfg shiftRight 0x4A .lsrAcc (lsrForms b lo hi) s := ⟨rfl, rfl, lsrForms_hasBody cfg b lo hi s⟩

theorem rol_shiftBodies (cfg : Config) (b lo hi : Byte) (s : State) :
    ShiftBodies cfg rotateLeft 0x2A .rolAcc (rolForms b lo hi) s := ⟨rfl, rfl, rolForms_hasBody cfg b lo hi s⟩

theorem ror_shiftBodies (cfg : Config) (b lo hi : Byte) (s : State) :
    ShiftBodies cfg rotateRight 0x6A .rorAcc (rorForms b lo hi) s := ⟨rfl, rfl, rorForms_hasBody cfg b lo hi s⟩

end Sys2Proof.Claims

namespace Sys2Proof.Machine

open Sys2Proof.Claims

/-- Settles O25: every form of ASL runs `shiftLeft`, and every form of ROL runs `rotateLeft`, on its operand. -/
theorem leftShiftsAndRotates : Obligations.LeftShiftsAndRotates := fun cfg b lo hi s =>
  ⟨(asl_shiftBodies cfg b lo hi s).shiftsInEveryForm fun v => shiftLeft_shiftedLeft v _,
    (rol_shiftBodies cfg b lo hi s).shiftsInEveryForm fun v => rotateLeft_shiftedLeft v _⟩

/-- Settles O26: every form of LSR runs `shiftRight`, and every form of ROR runs `rotateRight`, on its operand; N is the
bit that enters at the top. -/
theorem rightShiftsAndRotates : Obligations.RightShiftsAndRotates := by
  intro cfg b lo hi s
  have lsr := lsr_shiftBodies cfg b lo hi s
  have ror := ror_shiftBodies cfg b lo hi s
  have hlsr : ∀ v, ShiftedRight 0 v (shiftRight v s.flags.c).result (shiftRight v s.flags.c).carry :=
    fun v => shiftRight_shiftedRight v _
  have hror : ∀ v, ShiftedRight s.flags.c.toNat v (rotateRight v s.flags.c).result (rotateRight v s.flags.c).carry :=
    fun v => rotateRight_shiftedRight v _
  exact ⟨lsr.shiftsInEveryForm hlsr, ror.shiftsInEveryForm hror,
    fun _ _ => lsr.n_eq_of_shiftedRight (high := false) hlsr, fun _ _ => ror.n_eq_of_shiftedRight hror⟩

end Sys2Proof.Machine
end

section
/-! SUPPORT. The compares and BIT (43_compare_bit R112 to R115): the flags of a compare, as facts about the two bytes; what
the two bodies do; the forms that have those bodies. -/

namespace Sys2Proof.Machine

open Sys2Proof.Claims

/-! The flags of a compare -/

/-- The 8-bit difference is zero exactly when the bytes are equal. -/
theorem Flags.compare_z_iff (p : Flags) (r m : Byte) : (p.compare r m).z = true ↔ r = m := by
  rw [Flags.compare_z, beq_iff_eq]
  exact sub_eq_zero

/-- N is bit 7 of the 8-bit difference, not the sign of a signed comparison. -/
theorem Flags.compare_n_iff (p : Flags) (r m : Byte) :
    (p.compare r m).n = true ↔ 128 ≤ (r.toNat + 256 - m.toNat) % 256 := by
  have hdiff : (r - m).toNat = (r.toNat + 256 - m.toNat) % 256 := by bv_omega
  rw [Flags.compare_n, bit_seven_iff, hdiff]

/-- C is the unsigned comparison. -/
theorem Flags.compare_c_iff (p : Flags) (r m : Byte) : (p.compare r m).c = true ↔ m.toNat ≤ r.toNat := by
  rw [Flags.compare_c, decide_eq_true_iff]

/-! The two bodies -/

/-- The shared body of CMP, CPX and CPY, field by field: C, Z, N and PC are written, and nothing else is. -/
theorem compareWith_effect (r : Byte) (o : Operand) (s : State) :
    CompareEffect r (s.operandValue o) (operandLength o) s (compareWith r o s) :=
  ⟨Flags.compare_z_iff _ _ _, Flags.compare_n_iff _ _ _, Flags.compare_c_iff _ _ _, ⟨rfl, rfl, rfl, rfl⟩,
    State.advance_pc_toNat _ _, ⟨rfl, rfl, rfl, rfl⟩, rfl, fun _ => rfl⟩

/-- What BIT does with the byte `m` (R115): Z from A and `m`, N and V from bits 7 and 6 of `m`, PC past `len` bytes, nothing
else. -/
def BitTestEffect (m : Byte) (len : Nat) (s t : State) : Prop :=
  (t.flags.z = true ↔ s.a &&& m = 0) ∧ (t.flags.n = true ↔ 128 ≤ m.toNat) ∧
  (t.flags.v = true ↔ 64 ≤ m.toNat % 128) ∧
  t.flags.c = s.flags.c ∧ t.flags.i = s.flags.i ∧ t.flags.d = s.flags.d ∧ t.flags.b = s.flags.b ∧
  PcPast len s t ∧ SameRegisters s t ∧ t.jammed = s.jammed ∧ SameMemory s t

/-- BIT's body, field by field: Z, N, V and PC are written, and nothing else is. -/
theorem bitTest_effect (m : MemOperand) (s : State) :
    BitTestEffect (s.memRead (s.effAddr m)) (memLength m) s (bitTest m s) :=
  ⟨beq_iff_eq, bit_seven_iff _, bit_six_iff _, rfl, rfl, rfl, rfl, State.advance_pc_toNat _ _, ⟨rfl, rfl, rfl, rfl⟩, rfl,
    fun _ => rfl⟩

end Sys2Proof.Machine

namespace Sys2Proof.Claims

open Sys2Proof.Machine

/-! The forms -/

/-- CMP's eight forms share one body: a compare with A. -/
theorem cmpForms_hasBody (cfg : Config) (v b lo hi : Byte) (s : State) :
    ∀ f ∈ cmpForms v b lo hi, f.HasBody cfg (compareWith s.a) s := by
  intro f hf
  fin_cases hf <;> exact ⟨rfl, rfl, rfl⟩

/-- CPX's three forms share one body: a compare with X. -/
theorem cpxForms_hasBody (cfg : Config) (v b lo hi : Byte) (s : State) :
    ∀ f ∈ cpxForms v b lo hi, f.HasBody cfg (compareWith s.x) s := by
  intro f hf
  fin_cases hf <;> exact ⟨rfl, rfl, rfl⟩

/-- CPY's three forms share one body: a compare with Y. -/
theorem cpyForms_hasBody (cfg : Config) (v b lo hi : Byte) (s : State) :
    ∀ f ∈ cpyForms v b lo hi, f.HasBody cfg (compareWith s.y) s := by
  intro f hf
  fin_cases hf <;> exact ⟨rfl, rfl, rfl⟩

/-- BIT's two forms share one body. -/
theorem bitForms_hasBody (cfg : Config) (b lo hi : Byte) (s : State) :
    ∀ f ∈ bitForms b lo hi, f.HasBody cfg bitTest s := by
  intro f hf
  fin_cases hf <;> exact ⟨rfl, rfl, rfl⟩

end Sys2Proof.Claims

namespace Sys2Proof.Machine

open Sys2Proof.Claims

/-- A form whose body is `compareWith r` compares `r` with its operand value. -/
theorem runs_of_hasBody_compareWith {cfg : Config} {r : Byte} {s : State} {f : ReadForm}
    (hf : f.HasBody cfg (compareWith r) s) :
    Runs cfg f.bytes f.instr s (CompareEffect r (s.operandValue f.operand) f.bytes.length s) :=
  hf.runs (effect := fun m len => CompareEffect r m len s) fun o => compareWith_effect r o s

/-- Settles O27: each of the 14 forms runs `compareWith` on its operand, with A, X or Y. -/
theorem comparesSetFlagsOnly : Obligations.ComparesSetFlagsOnly := fun cfg v b lo hi s =>
  ⟨fun f hf => runs_of_hasBody_compareWith (cmpForms_hasBody cfg v b lo hi s f hf),
    fun f hf => runs_of_hasBody_compareWith (cpxForms_hasBody cfg v b lo hi s f hf),
    fun f hf => runs_of_hasBody_compareWith (cpyForms_hasBody cfg v b lo hi s f hf)⟩

/-- Settles O28: both forms run `bitTest` on their operand. -/
theorem bitTestsTheOperand : Obligations.BitTestsTheOperand := fun cfg b lo hi s f hf =>
  (bitForms_hasBody cfg b lo hi s f hf).runs (effect := fun ea len => BitTestEffect (s.memRead ea) len s)
    fun m => bitTest_effect m s

end Sys2Proof.Machine
end

section
/-! SUPPORT. Loads, stores and transfers (44_load_store_transfer R116 to R127): what a write of A, X or Y followed by a move
of PC does, and what a store does; the forms that have the bodies `loadA`, `loadX`, `loadY` and `store`. -/

namespace Sys2Proof.Machine

open Sys2Proof.Claims

/-! The bodies -/

/-- A written with Z and N from it, then PC moved on, as LDA, TXA and TYA do. -/
theorem State.setA_advance_setsA (s : State) (v : Byte) (n : Nat) : SetsA v n s ((s.setA v).advance n) :=
  ⟨rfl, onlyZN_of_flags_eq_setZN rfl, State.advance_pc_toNat _ n, rfl, rfl, rfl, rfl, fun _ => rfl⟩

/-- X written with Z and N from it, then PC moved on, as LDX, TAX and TSX do. -/
theorem State.setX_advance_setsX (s : State) (v : Byte) (n : Nat) : SetsX v n s ((s.setX v).advance n) :=
  ⟨rfl, onlyZN_of_flags_eq_setZN rfl, State.advance_pc_toNat _ n, rfl, rfl, rfl, rfl, fun _ => rfl⟩

/-- Y written with Z and N from it, then PC moved on, as LDY and TAY do. -/
theorem State.setY_advance_setsY (s : State) (v : Byte) (n : Nat) : SetsY v n s ((s.setY v).advance n) :=
  ⟨rfl, onlyZN_of_flags_eq_setZN rfl, State.advance_pc_toNat _ n, rfl, rfl, rfl, rfl, fun _ => rfl⟩

/-- The shared body of STA, STX and STY on canonical memory, field by field: the byte and PC are written, and nothing else
is, the flags included. -/
theorem store_effect {s : State} (hs : s.Inv) (v : Byte) (m : MemOperand) :
    StoreEffect v (s.effAddr m) (memLength m) s (store v m s) :=
  ⟨State.memRead_memWrite_same hs _ v, fun _ hne => State.memRead_memWrite_other s hne v, State.advance_pc_toNat _ _, rfl,
    ⟨rfl, rfl, rfl, rfl⟩, rfl⟩

end Sys2Proof.Machine

namespace Sys2Proof.Claims

open Sys2Proof.Machine

/-! The forms -/

/-- LDA's eight forms share one body. -/
theorem ldaForms_hasBody (cfg : Config) (v b lo hi : Byte) (s : State) :
    ∀ f ∈ ldaForms v b lo hi, f.HasBody cfg loadA s := by
  intro f hf
  fin_cases hf <;> exact ⟨rfl, rfl, rfl⟩

/-- LDX's five forms share one body. -/
theorem ldxForms_hasBody (cfg : Config) (v b lo hi : Byte) (s : State) :
    ∀ f ∈ ldxForms v b lo hi, f.HasBody cfg loadX s := by
  intro f hf
  fin_cases hf <;> exact ⟨rfl, rfl, rfl⟩

/-- LDY's five forms share one body. -/
theorem ldyForms_hasBody (cfg : Config) (v b lo hi : Byte) (s : State) :
    ∀ f ∈ ldyForms v b lo hi, f.HasBody cfg loadY s := by
  intro f hf
  fin_cases hf <;> exact ⟨rfl, rfl, rfl⟩

/-- STA's seven forms share one body: a store of A. -/
theorem staForms_hasBody (cfg : Config) (b lo hi : Byte) (s : State) :
    ∀ f ∈ staForms b lo hi, f.HasBody cfg (store s.a) s := by
  intro f hf
  fin_cases hf <;> exact ⟨rfl, rfl, rfl⟩

/-- STX's three forms share one body: a store of X. -/
theorem stxForms_hasBody (cfg : Config) (b lo hi : Byte) (s : State) :
    ∀ f ∈ stxForms b lo hi, f.HasBody cfg (store s.x) s := by
  intro f hf
  fin_cases hf <;> exact ⟨rfl, rfl, rfl⟩

/-- STY's three forms share one body: a store of Y. -/
theorem styForms_hasBody (cfg : Config) (b lo hi : Byte) (s : State) :
    ∀ f ∈ styForms b lo hi, f.HasBody cfg (store s.y) s := by
  intro f hf
  fin_cases hf <;> exact ⟨rfl, rfl, rfl⟩

end Sys2Proof.Claims

namespace Sys2Proof.Machine

open Sys2Proof.Claims

/-- Settles O29: each of the 18 forms runs `loadA`, `loadX` or `loadY`, which sets the register to its operand value. -/
theorem loadsSetTheRegisterAndZN : Obligations.LoadsSetTheRegisterAndZN := fun cfg v b lo hi s =>
  ⟨fun f hf => (ldaForms_hasBody cfg v b lo hi s f hf).runs (effect := fun m len => SetsA m len s)
      fun o => s.setA_advance_setsA (s.operandValue o) (operandLength o),
    fun f hf => (ldxForms_hasBody cfg v b lo hi s f hf).runs (effect := fun m len => SetsX m len s)
      fun o => s.setX_advance_setsX (s.operandValue o) (operandLength o),
    fun f hf => (ldyForms_hasBody cfg v b lo hi s f hf).runs (effect := fun m len => SetsY m len s)
      fun o => s.setY_advance_setsY (s.operandValue o) (operandLength o)⟩

/-- On canonical memory, a form whose body is `store v` stores `v` at its effective address. -/
theorem runs_of_hasBody_store {cfg : Config} {v : Byte} {s : State} {f : MemForm} (hs : s.Inv)
    (hf : f.HasBody cfg (store v) s) :
    Runs cfg f.bytes f.instr s (StoreEffect v (s.effAddr f.operand) f.bytes.length s) :=
  hf.runs (effect := fun ea len => StoreEffect v ea len s) fun m => store_effect hs v m

/-- Settles O30: each of the 13 forms runs `store` at its operand's address, with A, X or Y. -/
theorem storesWriteOneByte : Obligations.StoresWriteOneByte := fun cfg b lo hi s hs =>
  ⟨fun f hf => runs_of_hasBody_store hs (staForms_hasBody cfg b lo hi s f hf),
    fun f hf => runs_of_hasBody_store hs (stxForms_hasBody cfg b lo hi s f hf),
    fun f hf => runs_of_hasBody_store hs (styForms_hasBody cfg b lo hi s f hf)⟩

/-- Settles O31: five transfers set A, X or Y to the source and advance; TXS writes SP and PC alone (decision D19). -/
theorem transfersCopyRegisters : Obligations.TransfersCopyRegisters := fun _ s =>
  ⟨⟨rfl, _, rfl, s.setX_advance_setsX s.a 1⟩, ⟨rfl, _, rfl, s.setY_advance_setsY s.a 1⟩,
    ⟨rfl, _, rfl, s.setA_advance_setsA s.x 1⟩, ⟨rfl, _, rfl, s.setA_advance_setsA s.y 1⟩,
    ⟨rfl, _, rfl, s.setX_advance_setsX s.sp 1⟩,
    ⟨rfl, _, rfl, rfl, rfl, State.advance_pc_toNat _ 1, rfl, rfl, rfl, rfl, fun _ => rfl⟩⟩

end Sys2Proof.Machine
end

section
/-! SUPPORT. Increments and decrements (45_inc_dec R128 to R131): one more and one less than a byte, as numbers. -/

namespace Sys2Proof

/-- One more than a byte wraps from 255 to 0. -/
theorem byte_add_one_toNat (v : Byte) : (v + 1).toNat = (v.toNat + 1) % 256 := BitVec.toNat_add v 1

/-- One less than a byte wraps from 0 to 255. -/
theorem byte_sub_one_toNat (v : Byte) : (v - 1).toNat = (v.toNat + 255) % 256 := by
  rw [Nat.add_comm]
  exact BitVec.toNat_sub v 1

end Sys2Proof

namespace Sys2Proof.Machine

open Sys2Proof.Claims

/-- Settles O32: each sets X or Y to one more or one less, as LDX and LDY set it to what they read, and advances. -/
theorem incrementsAndDecrementsWrap : Obligations.IncrementsAndDecrementsWrap := fun _ s =>
  ⟨⟨rfl, _, rfl, byte_add_one_toNat s.x, s.setX_advance_setsX (s.x + 1) 1⟩,
    ⟨rfl, _, rfl, byte_add_one_toNat s.y, s.setY_advance_setsY (s.y + 1) 1⟩,
    ⟨rfl, _, rfl, byte_sub_one_toNat s.x, s.setX_advance_setsX (s.x - 1) 1⟩,
    ⟨rfl, _, rfl, byte_sub_one_toNat s.y, s.setY_advance_setsY (s.y - 1) 1⟩⟩

end Sys2Proof.Machine
end

section
/-! SUPPORT. The stack (46_stack R132 to R136): what a push does, the round trip of a push and a pull, and the statements
about PHA, PHP, PLA and PLP. -/

namespace Sys2Proof.Machine

open Sys2Proof.Claims

/-! The primitives -/

/-- An address in the stack page is the one its number names. -/
theorem eq_stackAddr_of_toNat_eq {addr : Addr} {sp : Byte} (h : addr.toNat = 0x0100 + sp.toNat) : addr = stackAddr sp :=
  BitVec.eq_of_toNat_eq (h.trans (stackAddr_toNat sp).symm)

/-- A push on canonical memory: the byte at the free address, the frame around it, and SP one less. -/
theorem State.push_pushed {s : State} (hs : s.Inv) (v : Byte) : Pushed v s (s.push v) :=
  ⟨State.memRead_push_same hs v, fun _ hne => State.memRead_push_other s hne v, byte_sub_one_toNat s.sp⟩

/-- A pull after a push restores SP, whatever SP: the decrement and the increment cancel modulo 256. -/
theorem State.afterPull_push_sp (s : State) (v : Byte) : (s.push v).afterPull.sp = s.sp := BitVec.sub_add_cancel s.sp 1

/-- A pull after a push on canonical memory gives the byte back: it reads at the address the push wrote. -/
theorem State.pulled_push {s : State} (hs : s.Inv) (v : Byte) : (s.push v).pulled = v := by
  have hsp : (s.push v).sp + 1 = s.sp := s.afterPull_push_sp v
  rw [State.pulled, hsp, State.memRead_push_same hs]

/-- Settles O35: the push writes at the address the number names, and the pull after it finds that address again. -/
theorem pushThenPullGivesTheByteBack : Obligations.PushThenPullGivesTheByteBack := by
  intro s v hs
  refine ⟨State.push_pushed hs v, fun addr haddr => ?_, byte_add_one_toNat s.sp, fun addr haddr => ?_,
    State.pulled_push hs v, s.afterPull_push_sp v⟩
  · rw [eq_stackAddr_of_toNat_eq haddr, State.memRead_push_same hs]
  · rw [← byte_add_one_toNat] at haddr
    rw [eq_stackAddr_of_toNat_eq haddr, State.pulled]

/-! The instructions -/

/-- What PHA and PHP do with the byte `v` they push: SP, one byte of the stack and PC change, and nothing else. -/
def PushEffect (v : Byte) (s t : State) : Prop :=
  Pushed v s t ∧ t.flags = s.flags ∧ PcPast 1 s t ∧ t.a = s.a ∧ t.x = s.x ∧ t.y = s.y ∧ t.jammed = s.jammed

/-- The meaning PHA and PHP share, a push and then PC moved past the opcode, field by field. -/
theorem push_advance_effect {s : State} (hs : s.Inv) (v : Byte) : PushEffect v s ((s.push v).advance 1) :=
  ⟨State.push_pushed hs v, rfl, State.advance_pc_toNat _ 1, rfl, rfl, rfl, rfl⟩

/-- Settles O33: PHA pushes A and PHP the status byte (decision D9), and both advance by 1. -/
theorem pushesStoreAndDecrement : Obligations.PushesStoreAndDecrement := fun _ s hs =>
  ⟨⟨rfl, _, rfl, push_advance_effect hs s.a⟩, ⟨rfl, _, rfl, push_advance_effect hs s.flags.encodeP⟩⟩

/-- Settles O34: both read at the incremented SP, which is the new one; PLA goes through `setA`, and PLP replaces the
flags. -/
theorem pullsIncrementAndLoad : Obligations.PullsIncrementAndLoad := fun _ s =>
  ⟨⟨rfl, _, rfl, byte_add_one_toNat s.sp, rfl, onlyZN_of_flags_eq_setZN rfl, State.advance_pc_toNat _ 1, rfl, rfl, rfl,
      fun _ => rfl⟩,
    ⟨rfl, _, rfl, byte_add_one_toNat s.sp, rfl, State.advance_pc_toNat _ 1, rfl, rfl, rfl, rfl, fun _ => rfl⟩⟩

end Sys2Proof.Machine
end

section
/-! SUPPORT. The branches (47_branch R137 to R146): the offset byte as a signed number, and what a branch does with it. -/

namespace Sys2Proof.Machine

open Sys2Proof.Claims

/-- The offset a branch states is the byte's two's complement value (R137). -/
theorem offset_eq_toInt (off : Byte) : offset off = off.toInt := by
  rw [offset, BitVec.toInt_eq_toNat_cond]
  split <;> split <;> omega

/-- A sign-extended byte, added at 16 bits, adds the signed offset modulo 65536 (R138). -/
theorem add_sext16_toNat (a : Addr) (off : Byte) :
    ((a + sext16 off).toNat : Int) = ((a.toNat : Int) + offset off) % 65536 := by
  rw [offset_eq_toInt, BitVec.toNat_add, sext16, BitVec.signExtend, BitVec.toNat_ofInt]
  omega

/-- What a branch with the offset byte `off` does, as its condition holds or not: PC changes, and nothing else (R138). -/
def BranchEffect (cond : Bool) (off : Byte) (s t : State) : Prop :=
  (cond = true → (t.pc.toNat : Int) = ((s.pc.toNat : Int) + 2 + offset off) % 65536) ∧
  (cond = false → PcPast 2 s t) ∧ t.flags = s.flags ∧ SameRegisters s t ∧ t.jammed = s.jammed ∧ SameMemory s t

/-- The shared body of the eight branches: PC moves past both bytes (C1), and a taken branch adds the offset to that. -/
theorem branch_effect (cond : Bool) (off : Byte) (s : State) : BranchEffect cond off s (branch cond off s) := by
  have hpast : (s.advance 2).pc.toNat = (s.pc.toNat + 2) % 65536 := s.advance_pc_toNat 2
  cases cond with
  | false => exact ⟨nofun, fun _ => hpast, rfl, ⟨rfl, rfl, rfl, rfl⟩, rfl, fun _ => rfl⟩
  | true =>
    refine ⟨fun _ => ?_, nofun, rfl, ⟨rfl, rfl, rfl, rfl⟩, rfl, fun _ => rfl⟩
    rw [branch, if_pos rfl, State.jump_pc, add_sext16_toNat, hpast]
    omega

/-- Each branch's two bytes decode to it, and it runs the shared body on its own condition (R139 to R146). -/
theorem branches_have_body (cfg : Config) (off : Byte) (s : State) :
    ∀ f ∈ branches off s.flags, decode cfg [f.1, off] = .ok f.2.1 ∧ exec f.2.1 s = .next (branch f.2.2 off s) := by
  intro f hf
  simp only [branches, beq_false, beq_true] at hf
  fin_cases hf <;> exact ⟨rfl, rfl⟩

/-- Settles O36: all eight run `branch`, each on its own flag. -/
theorem branchesAddTheSignedOffset : Obligations.BranchesAddTheSignedOffset := by
  intro cfg off s f hf
  obtain ⟨hdecode, hexec⟩ := branches_have_body cfg off s f hf
  exact ⟨hdecode, _, hexec, branch_effect f.2.2 off s⟩

end Sys2Proof.Machine
end

section
/-! SUPPORT. Jumps and subroutines (48_jump_subroutine R147 to R150): where an indirect JMP reads its high byte, the two
stack bytes of a JSR, and the return from it. -/

namespace Sys2Proof

open Sys2Proof.Claims Sys2Proof.Machine

/-! The two masks of R76 -/

/-- The bits of the mask `0xFF00`. -/
theorem getLsbD_highMask : ∀ i < 16, (0xFF00 : Addr).getLsbD i = decide (8 ≤ i) := by decide

/-- The bits of the mask `0x00FF`. -/
theorem getLsbD_lowMask : ∀ i < 16, (0x00FF : Addr).getLsbD i = decide (i < 8) := by decide

/-- The high byte of one word and the low byte of another, put together by masks. -/
theorem highMask_or_lowMask (a b : Addr) : (a &&& 0xFF00) ||| (b &&& 0x00FF) = hiLo (hiByte a) (loByte b) := by
  refine BitVec.eq_of_getLsbD_eq fun i hi => ?_
  rw [BitVec.getLsbD_or, BitVec.getLsbD_and, BitVec.getLsbD_and, getLsbD_highMask i hi, getLsbD_lowMask i hi, hiLo,
    BitVec.getLsbD_append]
  by_cases hlow : i < 8
  · simp [hlow, loByte]
  · have hbit : 8 + (i - 8) = i := by omega
    have hlt : i - 8 < 8 := by omega
    simp [hlow, Nat.not_lt.1 hlow, hiByte, hbit, hlt]

/-- The high byte of a word, its low byte cleared. -/
theorem highMask_eq (a : Addr) : a &&& 0xFF00 = hiLo (hiByte a) 0 := by
  calc a &&& 0xFF00
    _ = (a &&& 0xFF00) ||| (0 &&& 0x00FF) := by simp
    _ = hiLo (hiByte a) (loByte 0) := highMask_or_lowMask a 0

/-! The mode IND -/

/-- No form of SLO has the mode IND (R87). -/
theorem sloMode_ne_ind (f : SloForm) : f.mode ≠ .ind := by cases f <;> decide

set_option maxRecDepth 4000 in
/-- In the map of R83 only JMP has the mode IND (R76). -/
theorem opcodeMap_ind : ∀ e ∈ opcodeMap, e.2.1 = .ind → e.1 = .jmp := by decide

/-- No parameter entry has the mode IND, so JMP is all that has it (R76). -/
theorem tableEntry_ind {cfg : Config} {op : Byte} {m : Mnemonic} (h : tableEntry cfg op = some (m, .ind)) : m = .jmp := by
  obtain hmap | ⟨_, -, -, -, hmode⟩ | ⟨f, -, -, -, hmode⟩ := (tableEntry_iff_opcodeMap_or_parameter ..).1 h
  · exact opcodeMap_ind _ hmap rfl
  · cases hmode
  · exact absurd hmode.symm (sloMode_ne_ind f)

end Sys2Proof

namespace Sys2Proof.Machine

open Sys2Proof.Claims

/-! JMP -/

/-- The model's high address is R76's formula: when the pointer ends its page, the low byte after it is 0, and otherwise
the sum does not carry into the high byte. -/
theorem jmpIndHighAddr_eq_specHighAddr (pageWrap : Bool) (ptr : Addr) :
    jmpIndHighAddr pageWrap ptr = specHighAddr pageWrap ptr := by
  cases pageWrap with
  | false => simp [jmpIndHighAddr, specHighAddr]
  | true =>
    have hnext : (ptr + 1).toNat = (ptr.toNat + 1) % 65536 := BitVec.toNat_add ptr 1
    have hend : loByte ptr = 0xFF ↔ ptr.toNat % 256 = 255 := by rw [← BitVec.toNat_inj, loByte_toNat]; rfl
    rw [jmpIndHighAddr, specHighAddr, if_pos rfl, if_pos rfl, highMask_or_lowMask]
    simp only [hend]
    split
    · have hzero : (ptr + 1).toNat % 256 = 0 := by omega
      have hlow : loByte (ptr + 1) = 0 := BitVec.eq_of_toNat_eq ((loByte_toNat _).trans hzero)
      rw [highMask_eq, hlow]
    · apply BitVec.eq_of_toNat_eq
      rw [hiLo_toNat, hiByte_toNat, loByte_toNat]
      omega

/-- An indirect JMP goes where R76 says, under the given parameters, and writes PC alone (R148). -/
theorem jmpIndirect_goesThrough (cfg : Config) (ptr : Addr) (s : State) :
    GoesThrough cfg.jmpIndPageWrap ptr s (jmpIndirect cfg ptr s) := by
  refine ⟨?_, rfl, ⟨rfl, rfl, rfl, rfl⟩, rfl, fun _ => rfl⟩
  rw [jmpIndirect, State.jump_pc, State.indirectTarget, hiLo_toNat, jmpIndHighAddr_eq_specHighAddr]

/-- Settles O37: the meaning is one assignment to PC, of the two operand bytes. -/
theorem jmpAbsoluteGoesToTheOperand : Obligations.JmpAbsoluteGoesToTheOperand := fun _ lo hi _ =>
  ⟨rfl, _, rfl, hiLo_toNat hi lo, rfl, ⟨rfl, rfl, rfl, rfl⟩, rfl, fun _ => rfl⟩

/-- Settles O38: `exec` and `execWith` run the same `jmpIndirect`, each under its own parameters. -/
theorem jmpIndirectGoesThroughThePointer : Obligations.JmpIndirectGoesThroughThePointer := fun cfg lo hi s =>
  ⟨rfl, ⟨_, rfl, jmpIndirect_goesThrough cfg (hiLo hi lo) s⟩, ⟨_, rfl, jmpIndirect_goesThrough coreConfig (hiLo hi lo) s⟩,
    fun _ _ => tableEntry_ind⟩

/-! Two pushes and two pulls -/

/-- The second of two pushes is at another address, so the first byte stays. -/
theorem State.memRead_push_push_first {s : State} (hs : s.Inv) (v w : Byte) :
    ((s.push v).push w).memRead (stackAddr s.sp) = v := by
  have hne : stackAddr s.sp ≠ stackAddr (s.push v).sp := fun h => by
    have hsp := congrArg BitVec.toNat (stackAddr_injective h)
    rw [State.push_sp, byte_sub_one_toNat] at hsp
    omega
  rw [State.memRead_push_other _ hne, State.memRead_push_same hs]

/-- The second byte of two pushes is at the address below the first, modulo 256. -/
theorem State.memRead_push_push_second {s : State} (hs : s.Inv) (v w : Byte) :
    ((s.push v).push w).memRead (stackAddr (s.sp - 1)) = w :=
  State.memRead_push_same (State.push_wf hs v) w

/-- Two pushes leave every byte but the two at their addresses. -/
theorem State.memRead_push_push_other (s : State) (v w : Byte) {addr : Addr} (hfirst : addr ≠ stackAddr s.sp)
    (hsecond : addr ≠ stackAddr (s.sp - 1)) : ((s.push v).push w).memRead addr = s.memRead addr := by
  rw [State.memRead_push_other _ hsecond, State.memRead_push_other _ hfirst]

/-- Two pulls move SP up by 2, modulo 256. -/
theorem State.afterPull_afterPull_sp (s : State) : s.afterPull.afterPull.sp = s.sp + 2 := BitVec.add_assoc s.sp 1 1

/-- The second of two pulls reads two above SP. -/
theorem State.pulled_afterPull (s : State) : s.afterPull.pulled = s.memRead (stackAddr (s.sp + 2)) := by
  rw [← State.afterPull_afterPull_sp]
  rfl

/-! JSR and RTS -/

/-- The two bytes JSR pushes, as one number: the address of its own last byte (R149). -/
theorem State.returnAddr_toNat (s : State) : s.returnAddr.toNat = (s.pc.toNat + 2) % 65536 := BitVec.toNat_add s.pc 2

/-- Settles O39: two pushes, of the high and then the low byte of the return address, and a jump. -/
theorem jsrPushesTheReturnAddress : Obligations.JsrPushesTheReturnAddress := by
  intro cfg lo hi s hs
  refine ⟨rfl, _, rfl, hiLo_toNat hi lo, ?_, ?_, fun addr => State.memRead_push_push_other s _ _, rfl, rfl, rfl, rfl, rfl⟩
  · rw [State.memRead_jump, State.memRead_jump, State.memRead_push_push_first hs, State.memRead_push_push_second hs,
      ← hiLo_toNat, hiLo_hiByte_loByte, State.returnAddr_toNat]
  · have hsecond : (s.sp - 1 - 1).toNat = ((s.sp - 1).toNat + 255) % 256 := byte_sub_one_toNat (s.sp - 1)
    have hfirst := byte_sub_one_toNat s.sp
    simp only [State.jump_sp, State.push_sp]
    omega

/-- The state RTS answers: SP past two pulls, PC one past the pulled address (R150). -/
theorem exec_rts (s : State) : exec .rts s =
    .next (s.afterPull.afterPull.jump (hiLo (s.memRead (stackAddr (s.sp + 2))) (s.memRead (stackAddr (s.sp + 1))) + 1)) := by
  rw [← State.pulled_afterPull]
  rfl

/-- An RTS that finds at the top of the stack the two bytes a JSR pushed from `s` resumes past that JSR, SP as before it. -/
theorem rts_resumes {s u : State} (hsp : u.sp = s.sp - 1 - 1) (hhigh : u.memRead (stackAddr s.sp) = hiByte s.returnAddr)
    (hlow : u.memRead (stackAddr (s.sp - 1)) = loByte s.returnAddr) :
    ∃ w, exec .rts u = .next w ∧ PcPast 3 s w ∧ w.sp = s.sp := by
  have hone : u.sp + 1 = s.sp - 1 := by rw [hsp, BitVec.sub_add_cancel]
  have htwo : u.sp + 2 = s.sp := by
    rw [← State.afterPull_afterPull_sp, State.afterPull_sp, State.afterPull_sp, hone, BitVec.sub_add_cancel]
  refine ⟨_, exec_rts u, ?_, u.afterPull_afterPull_sp.trans htwo⟩
  rw [hone, htwo, hhigh, hlow, hiLo_hiByte_loByte, PcPast, State.jump_pc, BitVec.toNat_add,
    State.returnAddr_toNat]
  simp

/-- Settles O40: RTS puts together again the bytes that JSR pushed, at the two addresses it pulls from. -/
theorem rtsResumesAfterJsr : Obligations.RtsResumesAfterJsr := by
  refine ⟨fun cfg s => ⟨rfl, _, exec_rts s, ?_, ?_, rfl, rfl, rfl, rfl, rfl, fun _ => rfl⟩, fun s target hs => ?_⟩
  · rw [State.jump_pc, BitVec.toNat_add, hiLo_toNat]
    rfl
  · rw [State.jump_sp, State.afterPull_afterPull_sp, BitVec.toNat_add]
    rfl
  · exact ⟨_, rfl, fun u hsp hhigh hlow => rts_resumes hsp (hhigh.trans (State.memRead_push_push_first hs _ _))
      (hlow.trans (State.memRead_push_push_second hs _ _))⟩

end Sys2Proof.Machine
end

section
/-! SUPPORT. The decoder and the encoder against each other (30_encoding sections 1, 3 and 4): what an entry of the table
encodes, both round trips, and the statements about them. -/

namespace Sys2Proof

open Sys2Proof.Claims Sys2Proof.Machine

/-! Decoding an encoding -/

/-- JAM_OPCODE's byte decodes to JAM, whatever bytes follow (R86, D4). -/
theorem decode_jamByte {cfg : Config} {j : JamByte} (hj : cfg.jamOpcode = some j) (rest : List Byte) :
    decode cfg (j.byte :: rest) = .ok .jam := by
  have hlookup : lookup cfg j.byte = some (jamRow j) := by rw [lookup_jamByte, if_pos hj]
  exact decode_none hlookup rfl rest

/-- A well-formed JAM has the byte JAM_OPCODE selects (R86). -/
theorem decode_encode_jam {cfg : Config} (h : wellFormed cfg .jam = true) (rest : List Byte) :
    decode cfg (encode cfg .jam ++ rest) = .ok .jam := by
  obtain ⟨j, hj⟩ := Option.isSome_iff_exists.1 h
  simpa [encode, hj] using decode_jamByte hj rest

/-- A well-formed SLO has the form SLO_OPCODE selects (R87). -/
theorem decode_encode_slo {cfg : Config} {o : SloOperand} (h : wellFormed cfg (.slo o) = true) (rest : List Byte) :
    decode cfg (encode cfg (.slo o) ++ rest) = .ok (.slo o) := by
  have hlookup : lookup cfg o.form.byte = some (sloRow o.form) := by rw [lookup_sloForm, if_pos (beq_iff_eq.1 h)]
  cases o with
  | indx b | zp b | indy b | zpx b => exact decode_byte hlookup rfl b rest
  | abs a | absy a | absx a => exact decode_encodeWord hlookup rfl a rest

/-- Settles O2: the opcode byte of a fixed instruction finds its row, whose shape reads the operand bytes back; the two
parameter instructions are well formed only when the parameter gives their byte a row. -/
theorem decodeOfEncodeIsTheInstruction : Obligations.DecodeOfEncodeIsTheInstruction := by
  intro cfg i rest h
  cases i with
  | jam => exact decode_encode_jam h rest
  | slo o => exact decode_encode_slo h rest
  | aslAcc | lsrAcc | rolAcc | rorAcc | tax | tay | txa | tya | tsx | txs | inx | iny | dex | dey | pha | pla | php | plp
  | rts | clc | sec | cli | sei | cld | sed | clv | brk | nop => exact decode_none (lookup_of_find rfl cfg) rfl _
  | oraAbs a | oraAbsx a | oraAbsy a | andAbs a | andAbsx a | andAbsy a | eorAbs a | eorAbsx a | eorAbsy a | aslAbs a
  | aslAbsx a | lsrAbs a | lsrAbsx a | rolAbs a | rolAbsx a | rorAbs a | rorAbsx a | cmpAbs a | cmpAbsx a | cmpAbsy a
  | cpxAbs a | cpyAbs a | bitAbs a | ldaAbs a | ldaAbsx a | ldaAbsy a | ldxAbs a | ldxAbsy a | ldyAbs a | ldyAbsx a
  | staAbs a | staAbsx a | staAbsy a | stxAbs a | styAbs a | jmpAbs a | jmpInd a | jsr a =>
    exact decode_encodeWord (lookup_of_find rfl cfg) rfl a rest
  | _ b => exact decode_byte (lookup_of_find rfl cfg) rfl b rest

/-! Encoding what was decoded -/

/-- The bytes of an entry whose two operand bytes are `b1` and `b2`: the opcode and as many of them as the shape reads. -/
def Row.bytes (r : Row) (b1 b2 : Byte) : List Byte :=
  match r.shape with
  | .none _ => [r.opcode]
  | .byte _ => [r.opcode, b1]
  | .word _ => encodeWord r.opcode (hiLo b2 b1)

/-- A 16-bit operand is written low byte first. -/
theorem encodeWord_hiLo (op lo hi : Byte) : encodeWord op (hiLo hi lo) = [op, lo, hi] := by simp [encodeWord]

theorem Row.bytes_length (r : Row) (b1 b2 : Byte) : (r.bytes b1 b2).length = 1 + r.shape.operandBytes := by
  unfold Row.bytes
  split <;> simp [*, Shape.operandBytes, encodeWord]

/-- An entry is found under its own opcode byte. -/
theorem lookup_opcode {cfg : Config} {op : Byte} {r : Row} (h : lookup cfg op = some r) : r.opcode = op := by
  obtain ⟨-, hop⟩ | ⟨j, -, rfl, rfl⟩ | ⟨f, -, rfl, rfl⟩ := lookup_cases h
  · exact hop
  · rfl
  · cases f <;> rfl

theorem Row.bytes_eq_cons (r : Row) (b1 b2 : Byte) : ∃ operands, r.bytes b1 b2 = r.opcode :: operands := by
  unfold Row.bytes
  split
  · exact ⟨_, rfl⟩
  · exact ⟨_, rfl⟩
  · exact ⟨_, rfl⟩

/-- What bytes that decode are: the bytes of an entry and some more, and the instruction is the one the entry builds. -/
theorem decode_cases {cfg : Config} {bytes : List Byte} {i : Instr} (h : decode cfg bytes = .ok i) :
    ∃ r b1 b2 rest, lookup cfg r.opcode = some r ∧ bytes = r.bytes b1 b2 ++ rest ∧ i = r.shape.build b1 b2 := by
  cases bytes with
  | nil => cases h
  | cons op rest =>
    cases hr : lookup cfg op with
    | none =>
      rw [decode_unmapped hr] at h
      cases h
    | some r =>
      obtain rfl := lookup_opcode hr
      cases hs : r.shape with
      | none j =>
        rw [decode_none hr hs] at h
        cases h
        exact ⟨r, 0, 0, rest, hr, by simp [Row.bytes, hs], by simp [hs, Shape.build]⟩
      | byte make =>
        obtain _ | ⟨b1, rest⟩ := rest
        · simp [decode, hr, hs] at h
        · rw [decode_byte hr hs] at h
          cases h
          exact ⟨r, b1, 0, rest, hr, by simp [Row.bytes, hs], by simp [hs, Shape.build]⟩
      | word make =>
        obtain _ | ⟨b1, _ | ⟨b2, rest⟩⟩ := rest
        · simp [decode, hr, hs] at h
        · simp [decode, hr, hs] at h
        · rw [decode_word hr hs] at h
          cases h
          exact ⟨r, b1, b2, rest, hr, by simp [Row.bytes, hs, encodeWord_hiLo], by simp [hs, Shape.build]⟩

/-- BRK is the one instruction with its mnemonic. -/
theorem Instr.mnemonic_eq_brk_iff (i : Instr) : i.mnemonic = .brk ↔ i = .brk := by
  cases i <;> simp [Instr.mnemonic]

set_option maxRecDepth 4000 in
/-- The fixed entries build well-formed instructions, whatever the operand bytes. -/
theorem opcodeTable_map_wellFormed :
    (opcodeTable.map fun r => fun cfg b1 b2 => wellFormed cfg (r.shape.build b1 b2)) =
      opcodeTable.map fun _ => fun _ _ _ => true := rfl

/-- A mapped byte's entry builds a well-formed instruction. -/
theorem wellFormed_build {cfg : Config} {op : Byte} {r : Row} (h : lookup cfg op = some r) (b1 b2 : Byte) :
    wellFormed cfg (r.shape.build b1 b2) = true := by
  obtain ⟨hr, -⟩ | ⟨j, hj, -, rfl⟩ | ⟨f, hf, -, rfl⟩ := lookup_cases h
  · exact congrFun₃ (List.map_inj_left.1 opcodeTable_map_wellFormed r hr) cfg b1 b2
  · exact Option.isSome_of_eq_some hj
  · cases f <;> exact beq_iff_eq.2 hf

/-- BRK's row. -/
def brkRow : Row := ⟨0x00, .brk, .imp, .none .brk⟩

set_option maxRecDepth 4000 in
/-- The fixed entries but BRK's, which is the first, encode what they build as the bytes it is built from. -/
theorem opcodeTable_tail_map_encode :
    (opcodeTable.tail.map fun r => fun cfg b1 b2 => encode cfg (r.shape.build b1 b2)) =
      opcodeTable.tail.map fun r => fun _ b1 b2 => r.bytes b1 b2 := rfl

theorem opcodeTable_eq_cons : opcodeTable = brkRow :: opcodeTable.tail := rfl

/-- Encoding what an entry builds gives the bytes it was built from; BRK's padding byte is no part of them (Log 5). -/
theorem encode_build {cfg : Config} {op : Byte} {r : Row} (h : lookup cfg op = some r) (hbrk : r.mnemonic ≠ .brk)
    (b1 b2 : Byte) : encode cfg (r.shape.build b1 b2) = r.bytes b1 b2 := by
  obtain ⟨hr, -⟩ | ⟨j, hj, -, rfl⟩ | ⟨f, -, -, rfl⟩ := lookup_cases h
  · rw [opcodeTable_eq_cons, List.mem_cons] at hr
    obtain rfl | htail := hr
    · exact absurd rfl hbrk
    · exact congrFun₃ (List.map_inj_left.1 opcodeTable_tail_map_encode r htail) cfg b1 b2
  · simp [jamRow, Shape.build, encode, hj, Row.bytes]
  · cases f <;> rfl

/-- The instruction an entry builds has the entry's mnemonic. -/
theorem mnemonic_build {cfg : Config} {op : Byte} {r : Row} (h : lookup cfg op = some r) (b1 b2 : Byte) :
    (r.shape.build b1 b2).mnemonic = r.mnemonic := congrArg Prod.fst (lookup_build_names h b1 b2)

/-- The instruction an entry builds has the entry's mode. -/
theorem mode_build {cfg : Config} {op : Byte} {r : Row} (h : lookup cfg op = some r) (b1 b2 : Byte) :
    (r.shape.build b1 b2).mode = r.mode := congrArg Prod.snd (lookup_build_names h b1 b2)

/-- An entry builds BRK exactly when it is BRK's. -/
theorem build_eq_brk_iff {cfg : Config} {op : Byte} {r : Row} (h : lookup cfg op = some r) (b1 b2 : Byte) :
    r.shape.build b1 b2 = .brk ↔ r.mnemonic = .brk := by
  rw [← Instr.mnemonic_eq_brk_iff, mnemonic_build h]

/-- A mnemonic that no parameter entry has and that the map of R83 lists at one byte is at that byte alone. -/
theorem opcode_of_tableEntry {cfg : Config} {op op' : Byte} {m : Mnemonic} {md : Mode}
    (h : tableEntry cfg op = some (m, md)) (hjam : m ≠ .jam) (hslo : m ≠ .slo)
    (hmap : ∀ e ∈ opcodeMap, e.1 = m → e.2.2 = op') : op = op' := by
  obtain hmem | ⟨_, -, -, hm, -⟩ | ⟨_, -, -, hm, -⟩ := (tableEntry_iff_opcodeMap_or_parameter ..).1 h
  · exact hmap _ hmem rfl
  · exact absurd hm hjam
  · exact absurd hm hslo

set_option maxRecDepth 4000 in
/-- BRK's byte is 0x00 (R83). -/
theorem opcodeMap_brk : ∀ e ∈ opcodeMap, e.1 = .brk → e.2.2 = 0x00 := by decide

/-- The opcode byte of an entry for BRK is 0x00. -/
theorem opcode_of_brk {cfg : Config} {op : Byte} {r : Row} (h : lookup cfg op = some r) (hm : r.mnemonic = .brk) :
    op = 0x00 :=
  opcode_of_tableEntry (tableEntry_eq_some_iff.2 ⟨r, h, hm, rfl⟩) nofun nofun opcodeMap_brk

/-- Settles O3: the bytes are those of an entry, which are what the instruction it builds encodes to, but for BRK. -/
theorem decodedBytesBeginWithTheEncoding : Obligations.DecodedBytesBeginWithTheEncoding := by
  intro cfg bytes i h
  obtain ⟨r, b1, b2, rest, hr, rfl, rfl⟩ := decode_cases h
  rw [ne_eq, build_eq_brk_iff hr]
  refine ⟨wellFormed_build hr b1 b2, fun hne => ⟨rest, by rw [encode_build hr hne]⟩, fun hbrk => ?_⟩
  obtain ⟨operands, hbytes⟩ := r.bytes_eq_cons b1 b2
  exact ⟨operands ++ rest, by rw [hbytes, opcode_of_brk hr hbrk, List.cons_append]⟩

/-! The form and the length -/

/-- An entry's shape reads as many operand bytes as its mode has (R63, R65). -/
theorem operandBytes_of_lookup {cfg : Config} {op : Byte} {r : Row} (h : lookup cfg op = some r) :
    r.shape.operandBytes = r.mode.operandBytes := by
  obtain ⟨hr, -⟩ | ⟨j, -, -, rfl⟩ | ⟨f, -, -, rfl⟩ := lookup_cases h
  · exact opcodeTable_shapes r hr
  · rfl
  · cases f <;> rfl

theorem Row.length_of_brk {r : Row} (h : r.mnemonic = .brk) : r.length = 2 := by
  rw [Row.length, h]

theorem Row.length_of_ne_brk {r : Row} (h : r.mnemonic ≠ .brk) : r.length = 1 + r.mode.operandBytes := by
  unfold Row.length
  split
  · exact absurd ‹_› h
  · rfl

/-- What an entry builds is encoded in as many bytes as the table says (R63, R64, R159). -/
theorem length_encode_build {cfg : Config} {op : Byte} {r : Row} (h : lookup cfg op = some r) (b1 b2 : Byte) :
    (encode cfg (r.shape.build b1 b2)).length = r.length := by
  by_cases hbrk : r.mnemonic = .brk
  · rw [(build_eq_brk_iff h b1 b2).2 hbrk, Row.length_of_brk hbrk]
    rfl
  · rw [encode_build h hbrk, Row.bytes_length, Row.length_of_ne_brk hbrk, operandBytes_of_lookup h]

/-- Settles O7: names and length are those of the entry the opcode byte finds. -/
theorem opcodeByteAloneDecidesTheForm : Obligations.OpcodeByteAloneDecidesTheForm := by
  intro cfg op rest i h
  obtain ⟨r, b1, b2, rest', hr, hbytes, rfl⟩ := decode_cases h
  obtain ⟨operands, hcons⟩ := r.bytes_eq_cons b1 b2
  obtain rfl : op = r.opcode := by
    rw [hcons] at hbytes
    exact List.head_eq_of_cons_eq hbytes
  rw [length_encode_build hr, mnemonic_build hr, mode_build hr]
  refine ⟨tableEntry_eq_some_iff.2 ⟨r, hr, rfl, rfl⟩, by rw [opcodeLength, hr, Option.map_some], ?_⟩
  split
  · exact Row.length_of_brk ((build_eq_brk_iff hr b1 b2).1 ‹_›)
  · exact Row.length_of_ne_brk fun hbrk => absurd ((build_eq_brk_iff hr b1 b2).2 hbrk) ‹_›

/-- Settles O1: each opcode byte finds its row whatever the parameters. -/
theorem wordsWrittenFromTheMapDecode : Obligations.WordsWrittenFromTheMapDecode :=
  fun _ _ _ _ => ⟨rfl, rfl, rfl, rfl, rfl, rfl, rfl, rfl, rfl, rfl⟩

end Sys2Proof
end

section
/-! SUPPORT. What an instruction can write, PC apart, said once for all of them, with the mnemonics that write it; and the
statements about every instruction that follow: memory, flags, registers and `jammed`. -/

namespace Sys2Proof.Machine

open Sys2Proof.Claims

/-! The cases -/

/-- The kinds of write: `Writes s i t` says that `t` is `s` with the components of one kind changed, and that `i` has a
mnemonic which changes those. PC ends anywhere. What an instruction does is always one of these (`writes_of_exec`). -/
inductive Writes (s : State) : Instr → State → Prop
  /-- Nothing but PC. -/
  | pcOnly {i : Instr} (pc : Addr) : Writes s i (s.jump pc)
  /-- A, with Z and N from it. -/
  | setA {i : Instr} (v : Byte) (pc : Addr) (hi : i.mnemonic ∈ [.ora, .and, .eor, .lda, .txa, .tya]) :
    Writes s i ((s.setA v).jump pc)
  /-- X, with Z and N from it. -/
  | setX {i : Instr} (v : Byte) (pc : Addr) (hi : i.mnemonic ∈ [.ldx, .tax, .tsx, .inx, .dex]) :
    Writes s i ((s.setX v).jump pc)
  /-- Y, with Z and N from it. -/
  | setY {i : Instr} (v : Byte) (pc : Addr) (hi : i.mnemonic ∈ [.ldy, .tay, .iny, .dey]) :
    Writes s i ((s.setY v).jump pc)
  /-- A shifted, with C, Z and N. -/
  | shiftAcc {i : Instr} (r : Shifted) (pc : Addr) (hi : i.mnemonic ∈ [.asl, .lsr, .rol, .ror]) (hmode : i.mode = .acc) :
    Writes s i { s with a := r.result, flags := s.flags.shifted r, pc := pc }
  /-- A byte of memory shifted, with C, Z and N. -/
  | shiftMem {i : Instr} (r : Shifted) (ea pc : Addr) (hi : i.mnemonic ∈ [.asl, .lsr, .rol, .ror])
    (hea : storedAddrs i s = [ea]) : Writes s i { s.memWrite ea r.result with flags := s.flags.shifted r, pc := pc }
  /-- SLO: a byte of memory, A, and C, Z and N. -/
  | slo (o : SloOperand) (v acc : Byte) (c : Bool) (pc : Addr) :
    Writes s (.slo o)
      { s.memWrite (s.effAddr o.toMem) v with a := acc, flags := { s.flags with c := c }.setZN acc, pc := pc }
  /-- C, Z and N from a compare. -/
  | compare {i : Instr} (r m : Byte) (pc : Addr) (hi : i.mnemonic ∈ [.cmp, .cpx, .cpy]) :
    Writes s i { s with flags := s.flags.compare r m, pc := pc }
  /-- Z, N and V from a bit test. -/
  | bit {i : Instr} (m : Byte) (pc : Addr) (hi : i.mnemonic = .bit) :
    Writes s i { s with flags := s.flags.bitTest s.a m, pc := pc }
  /-- A byte of memory stored. -/
  | store {i : Instr} (v : Byte) (ea pc : Addr) (hea : storedAddrs i s = [ea]) : Writes s i ((s.memWrite ea v).jump pc)
  /-- SP from X. -/
  | txs (pc : Addr) : Writes s .txs { s with sp := s.x, pc := pc }
  /-- A byte pushed. -/
  | push {i : Instr} (v : Byte) (pc : Addr) (hi : i = .pha ∨ i = .php) : Writes s i ((s.push v).jump pc)
  /-- A pulled, with Z and N from it. -/
  | pla (v : Byte) (pc : Addr) : Writes s .pla ((s.afterPull.setA v).jump pc)
  /-- Every flag pulled. -/
  | plp (p : Flags) (pc : Addr) : Writes s .plp { s.afterPull with flags := p, pc := pc }
  /-- Two bytes pushed. -/
  | jsr (v w : Byte) (target : Addr) : Writes s (.jsr target) (((s.push v).push w).jump target)
  /-- Two bytes pulled into PC. -/
  | rts (pc : Addr) : Writes s .rts (s.afterPull.afterPull.jump pc)
  /-- C forced. -/
  | forceC {i : Instr} (c : Bool) (pc : Addr) (hi : i.mnemonic ∈ [.clc, .sec]) :
    Writes s i { s with flags := { s.flags with c := c }, pc := pc }
  /-- I forced. -/
  | forceI {i : Instr} (b : Bool) (pc : Addr) (hi : i.mnemonic ∈ [.sei, .cli]) :
    Writes s i { s with flags := { s.flags with i := b }, pc := pc }
  /-- D forced. -/
  | forceD {i : Instr} (b : Bool) (pc : Addr) (hi : i.mnemonic ∈ [.sed, .cld]) :
    Writes s i { s with flags := { s.flags with d := b }, pc := pc }
  /-- V cleared. -/
  | clv (pc : Addr) : Writes s .clv { s with flags := { s.flags with v := false }, pc := pc }
  /-- B and I set. -/
  | brk (pc : Addr) : Writes s .brk { s with flags := { s.flags with b := true, i := true }, pc := pc }
  /-- The core jammed. -/
  | jam : Writes s .jam { s with jammed := true }

/-- A branch writes PC alone. -/
theorem writes_branch (s : State) (i : Instr) (cond : Bool) (off : Byte) : Writes s i (branch cond off s) := by
  rw [branch_eq]
  exact .pcOnly _

/-- Every instruction is one of the cases: its arm of `exec`, read off. -/
theorem writes_of_exec {i : Instr} {s t : State} (h : exec i s = .next t) : Writes s i t := by
  cases i with
  | nop | jmpAbs _ | jmpInd _ => cases h; exact .pcOnly _
  | bpl _ | bmi _ | bvc _ | bvs _ | bcc _ | bcs _ | bne _ | beq _ => cases h; exact writes_branch ..
  | oraImm _ | oraZp _ | oraZpx _ | oraAbs _ | oraAbsx _ | oraAbsy _ | oraIndx _ | oraIndy _
  | andImm _ | andZp _ | andZpx _ | andAbs _ | andAbsx _ | andAbsy _ | andIndx _ | andIndy _
  | eorImm _ | eorZp _ | eorZpx _ | eorAbs _ | eorAbsx _ | eorAbsy _ | eorIndx _ | eorIndy _
  | ldaImm _ | ldaZp _ | ldaZpx _ | ldaAbs _ | ldaAbsx _ | ldaAbsy _ | ldaIndx _ | ldaIndy _ | txa | tya =>
    cases h; exact .setA _ _ (by simp [Instr.mnemonic])
  | ldxImm _ | ldxZp _ | ldxZpy _ | ldxAbs _ | ldxAbsy _ | tax | tsx | inx | dex =>
    cases h; exact .setX _ _ (by simp [Instr.mnemonic])
  | ldyImm _ | ldyZp _ | ldyZpx _ | ldyAbs _ | ldyAbsx _ | tay | iny | dey =>
    cases h; exact .setY _ _ (by simp [Instr.mnemonic])
  | aslAcc | lsrAcc | rolAcc | rorAcc => cases h; exact .shiftAcc _ _ (by simp [Instr.mnemonic]) rfl
  | aslZp _ | aslZpx _ | aslAbs _ | aslAbsx _ | lsrZp _ | lsrZpx _ | lsrAbs _ | lsrAbsx _
  | rolZp _ | rolZpx _ | rolAbs _ | rolAbsx _ | rorZp _ | rorZpx _ | rorAbs _ | rorAbsx _ =>
    cases h; exact .shiftMem _ _ _ (by simp [Instr.mnemonic]) rfl
  | slo o => cases h; exact .slo o ..
  | cmpImm _ | cmpZp _ | cmpZpx _ | cmpAbs _ | cmpAbsx _ | cmpAbsy _ | cmpIndx _ | cmpIndy _
  | cpxImm _ | cpxZp _ | cpxAbs _ | cpyImm _ | cpyZp _ | cpyAbs _ =>
    cases h; exact .compare _ _ _ (by simp [Instr.mnemonic])
  | bitZp _ | bitAbs _ => cases h; exact .bit _ _ rfl
  | staZp _ | staZpx _ | staAbs _ | staAbsx _ | staAbsy _ | staIndx _ | staIndy _
  | stxZp _ | stxZpy _ | stxAbs _ | styZp _ | styZpx _ | styAbs _ => cases h; exact .store _ _ _ rfl
  | txs => cases h; exact .txs _
  | pha => cases h; exact .push _ _ (.inl rfl)
  | php => cases h; exact .push _ _ (.inr rfl)
  | pla => cases h; exact .pla _ _
  | plp => cases h; exact .plp _ _
  | jsr _ => cases h; exact .jsr ..
  | rts => cases h; exact .rts _
  | clc | sec => cases h; exact .forceC _ _ (by simp [Instr.mnemonic])
  | cli | sei => cases h; exact .forceI _ _ (by simp [Instr.mnemonic])
  | cld | sed => cases h; exact .forceD _ _ (by simp [Instr.mnemonic])
  | clv => cases h; exact .clv _
  | brk => cases h; exact .brk _
  | jam => cases h; exact .jam

/-! Memory -/

/-- An instruction keeps memory canonical: what it writes of memory it writes byte by byte. -/
theorem Writes.inv {s t : State} {i : Instr} (h : Writes s i t) (hs : s.Inv) : t.Inv := by
  cases h with
  | shiftMem r ea _ _ _ => exact State.memWrite_wf hs ea _
  | slo o v _ _ _ => exact State.memWrite_wf hs _ v
  | store v ea _ _ => exact State.memWrite_wf hs ea v
  | push v _ _ => exact State.push_wf hs v
  | jsr v w _ => exact State.push_wf (State.push_wf hs v) w
  | _ => exact hs

theorem storedAddrs_slo (o : SloOperand) (s : State) : storedAddrs (.slo o) s = [s.effAddr o.toMem] := rfl

theorem storedAddrs_of_push {i : Instr} (hi : i = .pha ∨ i = .php) (s : State) : storedAddrs i s = [stackAddr s.sp] := by
  obtain rfl | rfl := hi <;> rfl

theorem storedAddrs_jsr (target : Addr) (s : State) :
    storedAddrs (.jsr target) s = [stackAddr s.sp, stackAddr (s.sp - 1)] := rfl

/-- Memory changes only at the addresses an instruction stores to. -/
theorem Writes.memRead_eq {s t : State} {i : Instr} (h : Writes s i t) {addr : Addr} (haddr : addr ∉ storedAddrs i s) :
    t.memRead addr = s.memRead addr := by
  cases h with
  | shiftMem r ea _ _ hea | store v ea _ hea =>
    rw [hea, List.mem_singleton] at haddr
    exact State.memRead_memWrite_other s haddr _
  | slo o v _ _ _ =>
    rw [storedAddrs_slo, List.mem_singleton] at haddr
    exact State.memRead_memWrite_other s haddr v
  | push v _ hi =>
    rw [storedAddrs_of_push hi, List.mem_singleton] at haddr
    exact State.memRead_push_other s haddr v
  | jsr v w _ =>
    rw [storedAddrs_jsr, List.mem_pair, not_or] at haddr
    obtain ⟨hfirst, hsecond⟩ := haddr
    exact State.memRead_push_push_other s v w hfirst hsecond
  | _ => rfl

/-- Settles O22: the frame, for whatever the instruction writes. -/
theorem memoryChangesOnlyWhereAnInstructionStores : Obligations.MemoryChangesOnlyWhereAnInstructionStores :=
  fun _ _ _ h _ haddr => (writes_of_exec h).memRead_eq haddr

/-! The flags -/

/-- C is written by the shifts, SLO, the compares, CLC, SEC and PLP alone. -/
theorem Writes.flags_c_eq {s t : State} {i : Instr} (h : Writes s i t) (hout : i.mnemonic ∉ writesC) :
    t.flags.c = s.flags.c := by
  cases h with
  | shiftAcc _ _ hi _ | shiftMem _ _ _ hi _ | compare _ _ _ hi | forceC _ _ hi =>
    exact absurd ((by decide : _ ⊆ writesC) hi) hout
  | slo => exact absurd (show Mnemonic.slo ∈ writesC by decide) hout
  | plp => exact absurd (show Mnemonic.plp ∈ writesC by decide) hout
  | _ => rfl

/-- Z and N are written by the instructions with a result, the compares, BIT and PLP alone. -/
theorem Writes.flags_zn_eq {s t : State} {i : Instr} (h : Writes s i t) (hout : i.mnemonic ∉ writesZN) :
    t.flags.z = s.flags.z ∧ t.flags.n = s.flags.n := by
  cases h with
  | setA _ _ hi | setX _ _ hi | setY _ _ hi | shiftAcc _ _ hi _ | shiftMem _ _ _ hi _ | compare _ _ _ hi =>
    exact absurd ((by decide : _ ⊆ writesZN) hi) hout
  | bit _ _ hi => exact absurd (hi ▸ (by decide : Mnemonic.bit ∈ writesZN)) hout
  | slo => exact absurd (show Mnemonic.slo ∈ writesZN by decide) hout
  | pla => exact absurd (show Mnemonic.pla ∈ writesZN by decide) hout
  | plp => exact absurd (show Mnemonic.plp ∈ writesZN by decide) hout
  | _ => exact ⟨rfl, rfl⟩

/-- I is written by SEI, CLI, BRK and PLP alone. -/
theorem Writes.flags_i_eq {s t : State} {i : Instr} (h : Writes s i t) (hout : i.mnemonic ∉ [.sei, .cli, .brk, .plp]) :
    t.flags.i = s.flags.i := by
  cases h with
  | forceI _ _ hi => exact absurd ((by decide : _ ⊆ [Mnemonic.sei, .cli, .brk, .plp]) hi) hout
  | brk | plp => exact absurd (by simp [Instr.mnemonic]) hout
  | _ => rfl

/-- D is written by SED, CLD and PLP alone. -/
theorem Writes.flags_d_eq {s t : State} {i : Instr} (h : Writes s i t) (hout : i.mnemonic ∉ [.sed, .cld, .plp]) :
    t.flags.d = s.flags.d := by
  cases h with
  | forceD _ _ hi => exact absurd ((by decide : _ ⊆ [Mnemonic.sed, .cld, .plp]) hi) hout
  | plp => exact absurd (by simp [Instr.mnemonic]) hout
  | _ => rfl

/-- B is written by BRK and PLP alone. -/
theorem Writes.flags_b_eq {s t : State} {i : Instr} (h : Writes s i t) (hout : i.mnemonic ∉ [.brk, .plp]) :
    t.flags.b = s.flags.b := by
  cases h with
  | brk | plp => exact absurd (by simp [Instr.mnemonic]) hout
  | _ => rfl

/-- V is written by BIT, CLV and PLP alone. -/
theorem Writes.flags_v_eq {s t : State} {i : Instr} (h : Writes s i t) (hout : i.mnemonic ∉ [.bit, .clv, .plp]) :
    t.flags.v = s.flags.v := by
  cases h with
  | bit _ _ hi => exact absurd (by simp [hi]) hout
  | clv | plp => exact absurd (by simp [Instr.mnemonic]) hout
  | _ => rfl

/-- Settles O18: one lemma per flag, each over the kinds of write. -/
theorem onlyTheListedInstructionsWriteEachFlag : Obligations.OnlyTheListedInstructionsWriteEachFlag := by
  intro i s t h
  have hw := writes_of_exec h
  exact ⟨hw.flags_c_eq, hw.flags_zn_eq, hw.flags_i_eq, hw.flags_d_eq, hw.flags_b_eq, hw.flags_v_eq⟩

/-- Settles O20: of the three mnemonics that write V, CLV only clears it. -/
theorem onlyBitAndPlpSetOverflow : Obligations.OnlyBitAndPlpSetOverflow := by
  intro i s t h hbefore hafter
  cases writes_of_exec h with
  | bit _ _ hi => exact .inl hi
  | plp => exact .inr rfl
  | clv => exact absurd hafter Bool.false_ne_true
  | _ => exact absurd (hbefore.symm.trans hafter) Bool.false_ne_true

/-! The registers -/

/-- A is written by the listed instructions alone. -/
theorem Writes.a_eq {s t : State} {i : Instr} (h : Writes s i t) (hout : i.mnemonic ∉ writesA) : t.a = s.a := by
  cases h with
  | setA _ _ hi | shiftAcc _ _ hi _ => exact absurd ((by decide : _ ⊆ writesA) hi) hout
  | slo => exact absurd (show Mnemonic.slo ∈ writesA by decide) hout
  | pla => exact absurd (show Mnemonic.pla ∈ writesA by decide) hout
  | _ => rfl

/-- A shift of memory leaves A. -/
theorem Writes.a_eq_of_shiftMem {s t : State} {i : Instr} (h : Writes s i t) (hmode : i.mode ≠ .acc)
    (hi : i.mnemonic ∈ [.asl, .lsr, .rol, .ror]) : t.a = s.a := by
  cases h with
  | shiftAcc _ _ _ hacc => exact absurd hacc hmode
  | setA _ _ hset =>
    exact absurd hi
      ((by decide : ∀ m ∈ [Mnemonic.ora, .and, .eor, .lda, .txa, .tya], m ∉ [Mnemonic.asl, .lsr, .rol, .ror]) _ hset)
  | slo | pla => simp [Instr.mnemonic] at hi
  | _ => rfl

/-- X is written by LDX, TAX, TSX, INX and DEX alone. -/
theorem Writes.x_eq {s t : State} {i : Instr} (h : Writes s i t)
    (hout : i.mnemonic ∉ [.ldx, .tax, .tsx, .inx, .dex]) : t.x = s.x := by
  cases h with
  | setX _ _ hi => exact absurd hi hout
  | _ => rfl

/-- Y is written by LDY, TAY, INY and DEY alone. -/
theorem Writes.y_eq {s t : State} {i : Instr} (h : Writes s i t) (hout : i.mnemonic ∉ [.ldy, .tay, .iny, .dey]) :
    t.y = s.y := by
  cases h with
  | setY _ _ hi => exact absurd hi hout
  | _ => rfl

/-- SP is written by TXS and the stack instructions alone. -/
theorem Writes.sp_eq {s t : State} {i : Instr} (h : Writes s i t)
    (hout : i.mnemonic ∉ [.txs, .pha, .php, .jsr, .pla, .plp, .rts]) : t.sp = s.sp := by
  cases h with
  | push _ _ hi => exact absurd (by obtain rfl | rfl := hi <;> simp [Instr.mnemonic]) hout
  | txs | pla | plp | jsr | rts => exact absurd (by simp [Instr.mnemonic]) hout
  | _ => rfl

/-- Settles O19: one lemma per register, each over the kinds of write. -/
theorem onlyTheListedInstructionsWriteEachRegister : Obligations.OnlyTheListedInstructionsWriteEachRegister := by
  intro i s t h
  have hw := writes_of_exec h
  exact ⟨hw.a_eq, hw.a_eq_of_shiftMem, hw.x_eq, hw.y_eq, hw.sp_eq⟩

/-! `jammed` -/

/-- Only JAM writes `jammed`. -/
theorem Writes.jammed_eq {s t : State} {i : Instr} (h : Writes s i t) (hi : i ≠ .jam) : t.jammed = s.jammed := by
  cases h with
  | jam => exact absurd rfl hi
  | _ => rfl

/-- After an instruction the core is jammed exactly when it was or the instruction is JAM. -/
theorem jammed_iff_of_exec {i : Instr} {s t : State} (h : exec i s = .next t) :
    t.jammed = true ↔ s.jammed = true ∨ i = .jam := by
  by_cases hi : i = .jam
  · subst hi
    cases h
    simp
  · simp [(writes_of_exec h).jammed_eq hi, hi]

/-- Settles O52: no other instruction writes `jammed`, a jammed core takes no step, and the host's setters leave it. -/
theorem jammedIsMonotoneUntilReset : Obligations.JammedIsMonotoneUntilReset := by
  refine ⟨fun _ _ _ => jammed_iff_of_exec, fun cfg s hs => ⟨?_, fun fuel => ?_, fun _ _ => hs, fun _ => hs⟩, rfl, rfl⟩
  · rw [stepCall_jammed cfg hs]
    exact hs
  · rw [runCall_jammed cfg fuel hs]
    exact hs

end Sys2Proof.Machine
end

section
/-! SUPPORT. What every step and run keeps: canonical memory, and how a run ends (40_execution_loop section 3,
70_reset_and_hazards section 5). -/

namespace Sys2Proof.Machine

open Sys2Proof.Claims

/-! A step under given parameters -/

/-- Under any parameters an instruction writes what it writes under the core's own: they change where an indirect JMP goes,
which is PC. -/
theorem writes_of_execWith {cfg : Config} {i : Instr} {s t : State} (h : execWith cfg i s = .next t) : Writes s i t := by
  unfold execWith at h
  split at h
  · cases h
    exact .pcOnly _
  · exact writes_of_exec h

/-- A step that answers a next state is the handler of a fetched instruction, on a running core. -/
theorem stepWith_eq_next {cfg : Config} {s t : State} (h : stepWith cfg s = .next t) :
    s.jammed = false ∧ ∃ i, s.fetch cfg = some i ∧ execWith cfg i s = .next t := by
  cases hj : s.jammed with
  | true =>
    rw [stepWith_jammed cfg hj] at h
    cases h
  | false =>
    cases hi : s.fetch cfg with
    | none =>
      rw [stepWith_unmapped hj hi] at h
      cases h
    | some i => exact ⟨rfl, i, rfl, (stepWith_mapped hj hi).symm.trans h⟩

/-- A step keeps memory canonical. -/
theorem inv_of_stepWith {cfg : Config} {s t : State} (h : stepWith cfg s = .next t) (hs : s.Inv) : t.Inv := by
  obtain ⟨-, i, -, hexec⟩ := stepWith_eq_next h
  exact (writes_of_execWith hexec).inv hs

/-! Invariants of a run -/

/-- What `step()` leaves is the state of before or that of a step. -/
theorem stepCall_fst (cfg : Config) (s : State) : (stepCall cfg s).1 = s ∨ stepWith cfg s = .next (stepCall cfg s).1 := by
  unfold stepCall
  split
  · exact .inr ‹_›
  · exact .inl rfl
  · exact .inl rfl
  · exact .inl rfl

/-- What every step keeps, `step()` keeps. -/
theorem stepCall_keeps {cfg : Config} {P : State → Prop} (hstep : ∀ s t, stepWith cfg s = .next t → P s → P t) {s : State}
    (hs : P s) : P (stepCall cfg s).1 := by
  obtain h | h := stepCall_fst cfg s
  · rwa [h]
  · exact hstep _ _ h hs

/-- What every step keeps, a whole run keeps. -/
theorem runCall_keeps {cfg : Config} {P : State → Prop} (hstep : ∀ s t, stepWith cfg s = .next t → P s → P t) (fuel : Nat)
    {s : State} (hs : P s) : P (runCall cfg fuel s).1 := by
  induction fuel generalizing s with
  | zero => exact hs
  | succ fuel ih =>
    cases hj : s.jammed with
    | true => rwa [runCall_jammed cfg _ hj]
    | false =>
      have ht := stepCall_keeps hstep hs
      rcases hcall : stepCall cfg s with ⟨t, _ | op⟩
      · rw [hcall] at ht
        rw [runCall_succ_of_ok hj hcall]
        exact ih ht
      · rw [hcall] at ht
        rwa [runCall_succ_of_unknownOpcode hj hcall]

/-- What every step of the core keeps holds of every state reached. -/
theorem Reaches.keeps {P : State → Prop} (hstep : ∀ s t, step s = .next t → P s → P t) {s t : State} (h : Reaches s t)
    (hs : P s) : P t := by
  induction h with
  | refl => exact hs
  | tail _ hlast ih => exact hstep _ _ hlast ih

/-- Settles O15: every write of memory keeps the canonical form, so a step does, and with it a run and what is reached. -/
theorem everyStepKeepsMemoryCanonical : Obligations.EveryStepKeepsMemoryCanonical := by
  intro cfg s t hs
  exact ⟨fun h => inv_of_stepWith h hs, fun h => inv_of_stepWith h hs,
    fun h => h.keeps (fun _ _ => inv_of_stepWith) hs, fun fuel => runCall_keeps (fun _ _ => inv_of_stepWith) fuel hs,
    fun addr v => State.memWrite_wf hs addr v, fun _ => hs, fun nbits w => State.placeBytes_wf hs s.pc (tableBytes nbits w)⟩

/-! How a run ends -/

/-- The fetch reads PC and memory only. -/
theorem fetch_congr {cfg : Config} {s t : State} (hpc : t.pc = s.pc) (hmem : t.mem = s.mem) : t.fetch cfg = s.fetch cfg := by
  simp only [State.fetch, hpc, State.memRead_of_mem_eq hmem]

/-- JAM sets `jammed` and writes nothing else, under any parameters (R161). -/
theorem execWith_jam (cfg : Config) (s : State) : execWith cfg .jam s = .next { s with jammed := true } := rfl

/-- What a running core does at the byte at PC: an unmapped byte is reported, JAM jams the core where it stands, and any
other instruction leaves the core running. -/
theorem stepCall_cases (cfg : Config) {s : State} (hj : s.jammed = false) :
    (lookup cfg (s.memRead s.pc) = none ∧ stepCall cfg s = (s, .unknownOpcode (s.memRead s.pc))) ∨
    (s.fetch cfg = some .jam ∧ stepCall cfg s = ({ s with jammed := true }, .ok)) ∨
    ∃ t, t.jammed = false ∧ stepCall cfg s = (t, .ok) := by
  cases h : lookup cfg (s.memRead s.pc) with
  | none => exact .inl ⟨rfl, stepCall_unmapped hj h⟩
  | some r =>
    obtain ⟨i, hi, -⟩ := fetch_eq_some_of_lookup h
    obtain ⟨t, ht⟩ := execWith_completes cfg i s
    by_cases hjam : i = .jam
    · subst hjam
      exact .inr (.inl ⟨hi, stepCall_of_fetch hj hi (execWith_jam cfg s)⟩)
    · exact .inr (.inr ⟨t, ((writes_of_execWith ht).jammed_eq hjam).trans hj, stepCall_of_fetch hj hi ht⟩)

/-- Settles O55: by induction on the fuel, with the three outcomes of the first step. -/
theorem runEndsAtAJamOrAnUnmappedByte : Obligations.RunEndsAtAJamOrAnUnmappedByte := by
  intro cfg fuel s t r hj hrun
  induction fuel generalizing s with
  | zero =>
    rw [runCall, hj] at hrun
    cases hrun
    exact ⟨nofun, nofun, fun _ => hj⟩
  | succ fuel ih =>
    obtain ⟨hnone, hcall⟩ | ⟨hjam, hcall⟩ | ⟨u, hu, hcall⟩ := stepCall_cases cfg hj
    · rw [runCall_succ_of_unknownOpcode hj hcall] at hrun
      cases hrun
      refine ⟨nofun, fun op hop => ?_, nofun⟩
      cases hop
      exact ⟨hj, rfl, hnone⟩
    · rw [runCall_succ_of_ok hj hcall, runCall_jammed cfg fuel rfl] at hrun
      cases hrun
      exact ⟨fun _ => ⟨rfl, (fetch_congr rfl rfl).trans hjam⟩, nofun, nofun⟩
    · rw [runCall_succ_of_ok hj hcall] at hrun
      exact ih u hu hrun

/-- Settles O56: by induction on the fuel; a run that ends with no fuel left was jammed at the start. -/
theorem moreFuelKeepsTheEnding : Obligations.MoreFuelKeepsTheEnding := by
  intro cfg fuel more s t r hrun hr
  induction fuel generalizing s with
  | zero =>
    cases hj : s.jammed with
    | true => rw [← hrun, runCall_jammed cfg _ hj, runCall_jammed cfg _ hj]
    | false =>
      rw [runCall, hj] at hrun
      cases hrun
      exact absurd rfl hr
  | succ fuel ih =>
    rw [Nat.succ_add]
    cases hj : s.jammed with
    | true => rw [← hrun, runCall_jammed cfg _ hj, runCall_jammed cfg _ hj]
    | false =>
      rcases hcall : stepCall cfg s with ⟨u, _ | op⟩
      · rw [runCall_succ_of_ok hj hcall] at hrun ⊢
        exact ih u hrun
      · rw [runCall_succ_of_unknownOpcode hj hcall] at hrun ⊢
        exact hrun

end Sys2Proof.Machine
end

section
/-! SUPPORT. Flag instructions, BRK, NOP, JAM and SLO (49_flags_system_illegal R151 to R162). -/

namespace Sys2Proof

open Sys2Proof.Claims Sys2Proof.Machine

set_option maxRecDepth 4000 in
/-- NOP's byte is 0xEA (R83). -/
theorem opcodeMap_nop : ∀ e ∈ opcodeMap, e.1 = .nop → e.2.2 = 0xEA := by decide

/-- An SLO encoding is the encoder's, and as long as its operand's form (R87). -/
theorem sloEncodings_eq (b lo hi : Byte) :
    ∀ f ∈ sloEncodings b lo hi, f.1 = encodeSlo f.2 ∧ f.1.length = memLength f.2.toMem := by
  intro f hf
  fin_cases hf <;> exact ⟨by simp [encodeSlo, encodeWord_hiLo, SloForm.byte], rfl⟩

/-- The bytes of an SLO encoding decode to it when SLO_OPCODE selects its form (D5). -/
theorem decode_sloEncoding {cfg : Config} {b lo hi : Byte} {f : List Byte × SloOperand} (hf : f ∈ sloEncodings b lo hi)
    (hsel : cfg.sloOpcode = some f.2.form) : decode cfg f.1 = .ok (.slo f.2) := by
  rw [(sloEncodings_eq b lo hi f hf).1, ← List.append_nil (encodeSlo f.2)]
  exact decode_encode_slo (beq_iff_eq.2 hsel) []

end Sys2Proof

namespace Sys2Proof.Machine

open Sys2Proof.Claims

/-- A flag instruction's byte decodes to it, and it runs the shared body with its own flags (R151 to R157). -/
theorem flagInstrs_have_body (cfg : Config) (s : State) :
    ∀ f ∈ flagInstrs s.flags, decode cfg [f.1] = .ok f.2.1 ∧ exec f.2.1 s = .next (withFlags f.2.2 s) := by
  intro f hf
  fin_cases hf <;> exact ⟨rfl, rfl⟩

/-- Settles O41: all seven run `withFlags`, which writes the flags and PC. -/
theorem flagInstructionsForceOneFlag : Obligations.FlagInstructionsForceOneFlag := by
  intro cfg s f hf
  obtain ⟨hdecode, hexec⟩ := flagInstrs_have_body cfg s f hf
  exact ⟨hdecode, _, hexec, rfl, State.advance_pc_toNat _ 1, ⟨rfl, rfl, rfl, rfl⟩, rfl, fun _ => rfl⟩

/-- Settles O42: BRK's meaning is one write of the flags and a move of PC (decisions D8 and D16). -/
theorem brkSetsBAndIAndSkipsTwoBytes : Obligations.BrkSetsBAndIAndSkipsTwoBytes := fun _ _ _ =>
  ⟨rfl, _, rfl, rfl, State.advance_pc_toNat _ 2, ⟨rfl, rfl, rfl, rfl⟩, rfl, fun _ => rfl⟩

/-- Settles O43: NOP's meaning is a move of PC, and the map of R83 lists NOP at one byte. -/
theorem nopOnlyAdvancesPc : Obligations.NopOnlyAdvancesPc := fun _ _ =>
  ⟨rfl, _, rfl, State.advance_pc_toNat _ 1, rfl, ⟨rfl, rfl, rfl, rfl⟩, rfl, fun _ => rfl,
    fun _ _ h => opcode_of_tableEntry h nofun nofun opcodeMap_nop⟩

/-- Settles O44: JAM sets `jammed` alone, and from there on neither `step()` nor `run()` moves. -/
theorem jamHaltsWithoutAdvancing : Obligations.JamHaltsWithoutAdvancing := by
  intro cfg s
  refine ⟨fun j hj => ⟨decode_jamByte hj [], j.byte_ne_two⟩, { s with jammed := true }, rfl, rfl, rfl, rfl, ⟨rfl, rfl, rfl, rfl⟩,
    fun _ => rfl, fun hrun hfetch => ?_⟩
  have hcall := stepCall_of_fetch hrun hfetch (execWith_jam cfg s)
  exact ⟨hcall, stepCall_jammed cfg rfl, fun fuel => (runCall_succ_of_ok hrun hcall fuel).trans (runCall_jammed cfg fuel rfl)⟩

/-- On canonical memory SLO leaves the byte at its address shifted left. -/
theorem memRead_shiftThenOr_same {s : State} (hs : s.Inv) (m : MemOperand) :
    (shiftThenOr m s).memRead (s.effAddr m) = (shiftLeft (s.memRead (s.effAddr m)) s.flags.c).result :=
  State.memRead_memWrite_same hs _ _

/-- Settles O45: SLO runs ASL on the byte and ORA on the result, and `setZN` comes last, from A. -/
theorem sloShiftsMemoryThenOrsIntoA : Obligations.SloShiftsMemoryThenOrsIntoA := by
  intro cfg b lo hi s hs f hf
  refine ⟨decode_sloEncoding hf, shiftThenOr f.2.toMem s, rfl, ?_⟩
  rw [memRead_shiftThenOr_same hs, (sloEncodings_eq b lo hi f hf).2]
  exact ⟨shiftLeft_shiftedLeft _ _, rfl, Flags.setZN_znFrom _ _, ⟨rfl, rfl, rfl, rfl⟩, State.advance_pc_toNat _ _, rfl, rfl,
    rfl, rfl, fun _ hne => State.memRead_memWrite_other s hne _⟩

end Sys2Proof.Machine
end

section
/-! SUPPORT. The status byte, the reset state and the canonical form of memory (10_state R29, R30, R38; Log 9). -/

namespace Sys2Proof

/-- A bit of a byte, as its number says it. -/
theorem bit_toNat (v : Byte) (i : Nat) : (bit v i).toNat = v.toNat / 2 ^ i % 2 := Nat.toNat_testBit v.toNat i

end Sys2Proof

namespace Sys2Proof.Machine

open Sys2Proof.Claims

/-! The status byte -/

/-- The layout of R29, bit by bit from N down. -/
theorem Flags.encodeP_eq_concat (p : Flags) : p.encodeP =
    (((((((BitVec.ofBool p.n).concat p.v).concat true).concat p.b).concat p.d).concat p.i).concat p.z).concat p.c := rfl

/-- The layout of R29, as a number. -/
theorem Flags.encodeP_toNat (p : Flags) : p.encodeP.toNat = 128 * p.n.toNat + 64 * p.v.toNat + 32 + 16 * p.b.toNat +
    8 * p.d.toNat + 4 * p.i.toNat + 2 * p.z.toNat + p.c.toNat := by
  simp only [Flags.encodeP_eq_concat, BitVec.toNat_concat, BitVec.toNat_ofBool, Bool.toNat_true]
  omega

/-- Decoding takes back what encoding put in place. -/
theorem Flags.decodeP_encodeP (p : Flags) : Flags.decodeP p.encodeP = p := by
  simp [Flags.encodeP_eq_concat, Flags.decodeP, bit]

/-- Encoding what a byte decodes to gives the byte with bit 5 set. -/
theorem Flags.encodeP_decodeP (w : Byte) : (Flags.decodeP w).encodeP = w ||| 0x20 := by
  refine BitVec.eq_of_getLsbD_eq fun i hi => ?_
  interval_cases i <;> simp [Flags.encodeP_eq_concat, bit]

/-- Settles O11: the layout is a number in base 2, and both round trips follow from it bit by bit. -/
theorem statusByteLayoutAndRoundTrips : Obligations.StatusByteLayoutAndRoundTrips := by
  refine ⟨Flags.encodeP_toNat, fun w => ?_, Flags.decodeP_encodeP, Flags.encodeP_decodeP⟩
  have hw := w.isLt
  simp only [Flags.decodeP, bit_toNat]
  omega

/-! Reset -/

/-- Settles O13: the fields of `State.reset`, and the empty memory list, which reads 0x00 everywhere. -/
theorem resetIsTheCanonicalInitialState : Obligations.ResetIsTheCanonicalInitialState :=
  ⟨rfl, rfl, rfl, rfl, rfl, rfl, rfl, rfl, fun addr => Memory.read_nil addr.toNat, rfl, rfl⟩

/-- Settles O14: the empty list is canonical. -/
theorem resetMeetsTheInvariant : Obligations.ResetMeetsTheInvariant := rfl

/-! Canonical memory -/

/-- The first listed byte reads otherwise than any memory listed above it. -/
theorem Memory.read_head_ne {lo k : Nat} {u : Byte} {rest m : Memory} (h : Memory.wfFrom lo ((k, u) :: rest) = true)
    (hm : Memory.wfFrom (k + 1) m = true) : Memory.read ((k, u) :: rest) k ≠ Memory.read m k := by
  obtain ⟨-, -, hu, -⟩ := (Memory.wfFrom_cons ..).1 h
  rwa [Memory.read_cons, if_pos rfl, Memory.read_below hm (Nat.lt_succ_self k)]

/-- Canonical memories that read alike are equal lists, by induction on both: the first address listed by one is the first
listed by the other, and the rests read alike. -/
theorem Memory.eq_of_read_eq {m m' : Memory} {lo : Nat} (h : Memory.wfFrom lo m = true) (h' : Memory.wfFrom lo m' = true)
    (hread : ∀ a < 65536, Memory.read m a = Memory.read m' a) : m = m' := by
  induction m generalizing lo m' with
  | nil =>
    obtain _ | ⟨⟨k', u'⟩, rest'⟩ := m'
    · rfl
    · obtain ⟨-, hk', -, -⟩ := (Memory.wfFrom_cons ..).1 h'
      exact absurd (hread k' hk').symm (Memory.read_head_ne h' rfl)
  | cons c rest ih =>
    obtain ⟨k, u⟩ := c
    obtain ⟨-, hk, hu, hrest⟩ := (Memory.wfFrom_cons ..).1 h
    obtain _ | ⟨⟨k', u'⟩, rest'⟩ := m'
    · exact absurd (hread k hk) (Memory.read_head_ne h rfl)
    · obtain ⟨-, hk', hu', hrest'⟩ := (Memory.wfFrom_cons ..).1 h'
      obtain hlt | rfl | hgt := lt_trichotomy k k'
      · exact absurd (hread k hk)
          (Memory.read_head_ne h ((Memory.wfFrom_cons ..).2 ⟨hlt, hk', hu', hrest'⟩))
      · obtain rfl : u = u' := by simpa [Memory.read_cons] using hread k hk
        rw [ih hrest hrest' fun a ha => ?_]
        by_cases hak : a = k
        · subst hak
          rw [Memory.read_below hrest (Nat.lt_succ_self a), Memory.read_below hrest' (Nat.lt_succ_self a)]
        · simpa [Memory.read_cons, hak] using hread a ha
      · exact absurd (hread k' hk').symm
          (Memory.read_head_ne h' ((Memory.wfFrom_cons ..).2 ⟨hgt, hk, hu, hrest⟩))

/-- Settles O16: every number below 65536 is an address. -/
theorem canonicalMemoriesThatReadAlikeAreEqual : Obligations.CanonicalMemoriesThatReadAlikeAreEqual := by
  intro s t hs ht hread
  refine Memory.eq_of_read_eq hs ht fun a ha => ?_
  have haddr : (BitVec.ofNat 16 a).toNat = a := Nat.mod_eq_of_lt ha
  simpa [State.memRead, haddr] using (hread (BitVec.ofNat 16 a)).symm

end Sys2Proof.Machine
end

section
/-! SUPPORT. The fetch: what decodes from the bytes at PC is what is fetched there, and what is stored or placed there is
what decodes (40_execution_loop sections 1 and 2, 20_memory section 5). -/

namespace Sys2Proof.Machine

open Sys2Proof.Claims

/-! From the bytes at PC to the fetch -/

/-- An entry at PC followed by the operand bytes it reads is fetched as the instruction it builds. -/
theorem fetch_of_bytesAt {cfg : Config} {s : State} {r : Row} {b1 b2 : Byte} {rest : List Byte}
    (hr : lookup cfg r.opcode = some r) (hat : BytesAt s (r.bytes b1 b2 ++ rest)) :
    s.fetch cfg = some (r.shape.build b1 b2) := by
  have hop : s.memRead s.pc = r.opcode := by
    obtain ⟨operands, hbytes⟩ := r.bytes_eq_cons b1 b2
    simpa [hbytes] using hat 0 (by simp [hbytes])
  rw [State.fetch, decodeBytes, hop, hr, Option.map_some]
  cases hs : r.shape with
  | none i => rfl
  | byte make =>
    have h1 : s.memRead (s.pc + 1) = b1 := by simpa [Row.bytes, hs] using hat 1 (by simp [Row.bytes, hs])
    rw [Shape.build, h1, Shape.build]
  | word make =>
    have h1 : s.memRead (s.pc + 1) = b1 := by
      simpa [Row.bytes, hs, encodeWord] using hat 1 (by simp [Row.bytes, hs, encodeWord])
    have h2 : s.memRead (s.pc + 2) = b2 := by
      simpa [Row.bytes, hs, encodeWord] using hat 2 (by simp [Row.bytes, hs, encodeWord])
    rw [Shape.build, h1, h2, Shape.build]

/-- Bytes at PC that decode are fetched as what they decode to. -/
theorem fetch_of_decode {cfg : Config} {s : State} {bytes : List Byte} {i : Instr} (hat : BytesAt s bytes)
    (h : decode cfg bytes = .ok i) : s.fetch cfg = some i := by
  obtain ⟨r, b1, b2, rest, hr, rfl, rfl⟩ := decode_cases h
  exact fetch_of_bytesAt hr hat

/-- Settles O46: a running core's step is the handler of the fetched instruction, `exec` under its own parameters. -/
theorem stepRunsTheDecodedInstruction : Obligations.StepRunsTheDecodedInstruction := by
  intro s bytes i hj hat
  have hstep : ∀ cfg, decode cfg bytes = .ok i → s.fetch cfg = some i ∧ stepWith cfg s = execWith cfg i s :=
    fun cfg h => ⟨fetch_of_decode hat h, stepWith_mapped hj (fetch_of_decode hat h)⟩
  refine ⟨fun h => ?_, hstep⟩
  rw [step_eq, (hstep coreConfig h).2, execWith_coreConfig]

/-! Placed bytes -/

theorem State.placeBytes_pc (s : State) (addr : Addr) (bytes : List Byte) : (s.placeBytes addr bytes).pc = s.pc := by
  induction bytes generalizing s addr with
  | nil => rfl
  | cons v rest ih => exact ih (s.memWrite addr v) (addr + 1)

/-- Placing bytes above an address leaves the byte at it, unless they wrap round to it. -/
theorem State.memRead_placeBytes_above (s : State) (addr : Addr) (bytes : List Byte) {k : Nat} (hk : 0 < k)
    (hlen : k + bytes.length ≤ 65536) : (s.placeBytes (addr + BitVec.ofNat 16 k) bytes).memRead addr = s.memRead addr := by
  induction bytes generalizing s k with
  | nil => rfl
  | cons v rest ih =>
    rw [List.length_cons] at hlen
    have hne : addr ≠ addr + BitVec.ofNat 16 k := by bv_omega
    have hnext : addr + BitVec.ofNat 16 k + 1 = addr + BitVec.ofNat 16 (k + 1) := by bv_omega
    rw [State.placeBytes, hnext, ih _ k.succ_pos (by omega), State.memRead_memWrite_other s hne]

/-- Bytes placed on canonical memory read back, each at its place. -/
theorem State.memRead_placeBytes {s : State} (hs : s.Inv) (addr : Addr) {bytes : List Byte} (hlen : bytes.length ≤ 65536)
    {k : Nat} (hk : k < bytes.length) : (s.placeBytes addr bytes).memRead (addr + BitVec.ofNat 16 k) = bytes[k] := by
  induction bytes generalizing s addr k with
  | nil => exact absurd hk (Nat.not_lt_zero k)
  | cons v rest ih =>
    rw [List.length_cons] at hlen hk
    cases k with
    | zero =>
      have habove := (s.memWrite addr v).memRead_placeBytes_above addr rest Nat.one_pos (by omega)
      exact (congrArg _ (BitVec.add_zero addr)).trans (habove.trans (State.memRead_memWrite_same hs addr v))
    | succ k =>
      have hnext : addr + BitVec.ofNat 16 (k + 1) = addr + 1 + BitVec.ofNat 16 k := by bv_omega
      rw [hnext]
      exact ih (State.memWrite_wf hs addr v) (addr + 1) (by omega) (by omega)

/-- The bytes of a placed word stand at PC. -/
theorem bytesAt_withFetchWord {s : State} (hs : s.Inv) (nbits w : Nat) :
    BytesAt (s.withFetchWord nbits w) (tableBytes nbits w) := by
  intro k hk
  have hpc : (s.withFetchWord nbits w).pc = s.pc := s.placeBytes_pc s.pc _
  rw [hpc]
  exact State.memRead_placeBytes hs s.pc (by simp [tableBytes]) hk

/-- A table word that names an instruction is one whose bytes decode to it. -/
theorem decode_of_decodeTableWord {nbits w : Nat} {i : Instr} (h : decodeTableWord nbits w = some i) :
    decode coreConfig (tableBytes nbits w) = .ok i := by
  unfold decodeTableWord at h
  split at h
  · cases h
    assumption
  · cases h

/-- Settles O47: the placed bytes stand at PC of a core that runs, and decode to the instruction. -/
theorem placedWordIsTheNextInstruction : Obligations.PlacedWordIsTheNextInstruction := by
  intro s nbits w i hs h
  obtain ⟨hstep, -⟩ := stepRunsTheDecodedInstruction (s.withFetchWord nbits w) _ i rfl (bytesAt_withFetchWord hs nbits w)
  exact hstep (decode_of_decodeTableWord h)

/-! A byte stored at PC -/

/-- On canonical memory, after a byte is written at PC the fetch sees it, and the two bytes after it as they were. -/
theorem fetch_memWrite_pc {cfg : Config} {s : State} (hs : s.Inv) (v : Byte) :
    (s.memWrite s.pc v).fetch cfg = decodeBytes cfg v (s.memRead (s.pc + 1)) (s.memRead (s.pc + 2)) := by
  have h1 : s.pc + 1 ≠ s.pc := by bv_omega
  have h2 : s.pc + 2 ≠ s.pc := by bv_omega
  rw [State.fetch, State.memWrite_pc, State.memRead_memWrite_same hs, State.memRead_memWrite_other s h1,
    State.memRead_memWrite_other s h2]

/-- Settles O57: the STA leaves the same memory as the host's write, and PC at the byte after its own three. -/
theorem storedOpcodeIsTheOneFetched : Obligations.StoredOpcodeIsTheOneFetched := by
  intro cfg s v hs
  refine ⟨fetch_memWrite_pc hs v, fun t ht => ?_⟩
  cases ht
  rw [← fetch_memWrite_pc hs v]
  exact fetch_congr (BitVec.sub_add_cancel s.pc 3) rfl

/-- Settles O58: the host's setters are `memWrite` and `jump`. -/
theorem hostSettersChangeOneThing : Obligations.HostSettersChangeOneThing := fun s addr v hs =>
  ⟨State.memRead_memWrite_same hs addr v, fun _ hne => State.memRead_memWrite_other s hne v, rfl, rfl, rfl⟩

end Sys2Proof.Machine
end

section
/-! SUPPORT. The statements about every instruction that compare its meaning with another: PC against the class table of
10_state R26, two runs that differ in I, D and B (R34), and the stack instructions' accesses (20_memory section 4). -/

namespace Sys2Proof.Machine

open Sys2Proof.Claims

/-! PC -/

/-- Where a branch goes. -/
theorem branch_pc (cond : Bool) (off : Byte) (s : State) :
    (branch cond off s).pc = if cond = true then s.pc + 2 + sext16 off else s.pc + 2 := by rw [branch_eq]

/-- Where a branch on a clear flag goes. -/
theorem branch_not_pc (flag : Bool) (off : Byte) (s : State) :
    (branch (!flag) off s).pc = if flag = false then s.pc + 2 + sext16 off else s.pc + 2 := by
  simp [branch_pc]

/-- Settles O17: a branch goes by its flag and RTS to what it pulls; every other instruction sets PC as its class says,
whatever the operand. -/
theorem pcAfterEveryInstruction : Obligations.PcAfterEveryInstruction := by
  intro i s t h
  cases i with
  | bpl off | bvc off | bcc off | bne off => cases h; exact branch_not_pc ..
  | bmi off | bvs off | bcs off | beq off => cases h; exact branch_pc ..
  | rts => cases (exec_rts s).symm.trans h; rfl
  | slo o => cases h; cases o <;> rfl
  | _ => cases h; rfl

/-! I, D and B -/

/-- The state with other values of I, D and B. -/
def State.withIDB (s : State) (i d b : Bool) : State := { s with flags := { s.flags with i := i, d := d, b := b } }

/-- States that agree on everything but I, D and B differ by those values. -/
theorem eq_withIDB_of_agree {s s' : State} (h : AgreeButIDB s s') : s' = s.withIDB s'.flags.i s'.flags.d s'.flags.b := by
  obtain ⟨hpc, ⟨ha, hx, hy, hsp⟩, hmem, hj, hc, hz, hv, hn⟩ := h
  obtain ⟨_, _, _, _, _, ⟨_, _, _, _, _, _, _⟩, _, _⟩ := s'
  subst hpc ha hx hy hsp hmem hj hc hz hv hn
  rfl

/-- A branch takes the same way with other values of I, D and B. -/
theorem agree_branch_withIDB (cond : Bool) (off : Byte) (s : State) (i d b : Bool) :
    AgreeButIDB (branch cond off s) (branch cond off (s.withIDB i d b)) := by
  rw [branch_eq, branch_eq]
  exact ⟨rfl, ⟨rfl, rfl, rfl, rfl⟩, rfl, rfl, rfl, rfl, rfl, rfl⟩

/-- Every instruction but PHP does the same with other values of I, D and B: no arm reads them. -/
theorem exec_withIDB {i : Instr} {s t : State} (hi : i ≠ .php) (h : exec i s = .next t) (fi fd fb : Bool) :
    ∃ t', exec i (s.withIDB fi fd fb) = .next t' ∧ AgreeButIDB t t' := by
  cases i with
  | php => exact absurd rfl hi
  | bpl _ | bvc _ | bcc _ | bne _ | bmi _ | bvs _ | bcs _ | beq _ => cases h; exact ⟨_, rfl, agree_branch_withIDB ..⟩
  | _ => cases h; exact ⟨_, rfl, rfl, ⟨rfl, rfl, rfl, rfl⟩, rfl, rfl, rfl, rfl, rfl, rfl⟩

/-- Settles O21: the second state is the first with other values of I, D and B. -/
theorem flagsIDBAffectNoOtherResult : Obligations.FlagsIDBAffectNoOtherResult := by
  intro i s s' t hi hagree h
  rw [eq_withIDB_of_agree hagree]
  exact exec_withIDB hi h ..

/-! The stack page -/

/-- Where the stack instructions store, if they do, is a stack address. -/
theorem storedAddrs_of_stack {i : Instr} (hi : i.mnemonic ∈ [.pha, .php, .jsr, .pla, .plp, .rts]) (s : State) :
    ∀ addr ∈ storedAddrs i s, ∃ sp, addr = stackAddr sp := by
  cases i with
  | pha | php => exact fun addr h => ⟨_, List.mem_singleton.1 h⟩
  | jsr target =>
    intro addr h
    rw [storedAddrs_jsr, List.mem_pair] at h
    obtain h | h := h
    · exact ⟨_, h⟩
    · exact ⟨_, h⟩
  | pla | plp | rts => exact nofun
  | _ => simp [Instr.mnemonic] at hi

/-- A stack address lies in page 1. -/
theorem stackAddr_mem_page (sp : Byte) : 0x0100 ≤ (stackAddr sp).toNat ∧ (stackAddr sp).toNat ≤ 0x01FF := by
  rw [stackAddr_toNat]
  omega

/-- What is pulled depends on the stack page alone. -/
theorem State.pulled_withMem {s : State} {m : Memory}
    (hm : ∀ sp, { s with mem := m }.memRead (stackAddr sp) = s.memRead (stackAddr sp)) :
    { s with mem := m }.pulled = s.pulled := hm (s.sp + 1)

theorem exec_pla (s : State) : exec .pla s = .next ((s.afterPull.setA s.pulled).advance 1) := rfl

theorem exec_plp (s : State) :
    exec .plp s = .next ({ s.afterPull with flags := Flags.decodeP s.pulled }.advance 1) := rfl

/-- The instructions that pull do the same with any memory that has the same stack page. -/
theorem exec_pull_withMem {i : Instr} {s t : State} {m : Memory} (hi : i.mnemonic ∈ [.pla, .plp, .rts])
    (h : exec i s = .next t) (hm : ∀ sp, { s with mem := m }.memRead (stackAddr sp) = s.memRead (stackAddr sp)) :
    exec i { s with mem := m } = .next { t with mem := m } := by
  cases i with
  | pla =>
    cases h
    rw [exec_pla, State.pulled_withMem hm]
    rfl
  | plp =>
    cases h
    rw [exec_plp, State.pulled_withMem hm]
    rfl
  | rts =>
    cases (exec_rts s).symm.trans h
    rw [exec_rts, hm, hm]
    rfl
  | _ => simp [Instr.mnemonic] at hi

/-- Settles O23: a byte that changes is one that is stored, on the stack; and a pull reads there. -/
theorem stackAccessesStayInPageOne : Obligations.StackAccessesStayInPageOne := by
  refine ⟨fun sp => ⟨stackAddr_toNat sp, stackAddr_mem_page sp⟩, fun i s t hi h addr hchanged => ?_,
    fun i s t m hi h hm => exec_pull_withMem hi h fun sp => ?_⟩
  · have hmem : addr ∈ storedAddrs i s := by
      by_contra hout
      exact hchanged ((writes_of_exec h).memRead_eq hout)
    obtain ⟨sp, rfl⟩ := storedAddrs_of_stack hi s addr hmem
    exact stackAddr_mem_page sp
  · obtain ⟨hlow, hhigh⟩ := stackAddr_mem_page sp
    exact hm _ hlow hhigh

end Sys2Proof.Machine
end
